-- ==== Sys2Proof/Word.lean ====
section
/-! DEFINITION. The word types of the core: its data path is 8 bits and its addresses are 16 bits
(00_scope.md rules R9 and R11). -/
namespace Sys2Proof

/-- A byte: 8 bits, bit 0 the least significant (R11). -/
abbrev Byte := BitVec 8

/-- A word: 16 bits, an address or a register pair (R11). -/
abbrev Word := BitVec 16

/-- A pixel of the frame buffer: 32-bit packed ARGB, alpha in bits 31:24 (R366, D34). -/
abbrev Pixel := BitVec 32

end Sys2Proof
end

