-- ==== Sys2Proof/Config.lean ====
section
/-! DEFINITION. What is fixed for a machine while it runs: the implementation parameters of
00_scope.md rule R9, and the one free value of the model (the joypad's button state). -/
namespace Sys2Proof

/-- A memory array: (offset, byte) pairs in one canonical form (Machine/Memory.lean, `Memory.wf`). -/
abbrev Memory := List Host.Cell

/-- `CART_KIND` (R9, R85, D38): which cartridge logic serves 0x0000-0x7FFF and 0xA000-0xBFFF. -/
inductive CartKind
  | romOnly
  | mbc1
deriving DecidableEq, Repr

/-- `RESET_PROFILE` (R9, R400, D3): which reset state the core starts in. -/
inductive ResetProfile
  | boot
  | postBoot
deriving DecidableEq, Repr

/-- `ILLEGAL_OPCODE_POLICY` (R9, R149, D31): what an undefined base opcode does. -/
inductive IllegalOpcodePolicy
  | nop
  | refuse
deriving DecidableEq, Repr

/-- `STOP_MODE` (R9, R148, D11): whether STOP skips the byte after it. -/
inductive StopMode
  | skip1
  | nop1
deriving DecidableEq, Repr

/-- The parameters of rule R9 that the step reads. They are no architectural state (R50): the interface
gives the step one argument, so they travel in `State.params`, and no step changes them (log entry 2).
`RESET_PROFILE` and `RAM_INIT` are read by reset only (`Machine.State.resetFor`). -/
structure Params where
  /-- `ROM`: the cartridge ROM image, by offset. -/
  rom : Memory
  /-- The length of `ROM` in bytes. -/
  romSize : Nat
  cartKind : CartKind
  /-- `ERAM_SIZE`: the size of the external cartridge RAM in bytes, 0 when there is none. -/
  eramSize : Nat
  /-- `BOOT_ROM`: the boot-ROM overlay's bytes, by offset. -/
  bootRom : Memory
  /-- The length of `BOOT_ROM` in bytes, possibly 0. -/
  bootLen : Nat
  illegalOpcodes : IllegalOpcodePolicy
  stopMode : StopMode
deriving DecidableEq, Repr

/-- The parameters `State.reset` starts with: a plain 32 KiB cartridge of zero bytes without RAM, no boot ROM,
and the policies' defaults, as the conventions of 95_test_vectors.md have them. DESIGN CHOICE (log entry 3). -/
def Params.default : Params where
  rom := []
  romSize := 0x8000
  cartKind := .romOnly
  eramSize := 0
  bootRom := []
  bootLen := 0
  illegalOpcodes := .nop
  stopMode := .skip1

/-- What an offset no pair of a memory array lists reads as. DESIGN CHOICE (log entry 4): the spec leaves the
initial contents to `RAM_INIT` (R45, D4) and lets a simulator use 0x00. -/
def unlistedByte : Byte := 0x00

/-- `JOYPAD` (R9, R71, D28): the 4-bit active-low button state the host supplies for the selected group, an
unconstrained draw at each read of 0xFF00. A FREE VALUE: no body, so nothing can be proved of the draw. It is
applied to the clock-cycle counter, which differs at every two reads of one run (log entry 5). -/
opaque Config.joypad : Nat → BitVec 4

end Sys2Proof
end

