-- ==== Sys2Proof/WellFormed.lean ====
section
/-! DEFINITION. The two checks of the model: an instruction term is a whole instruction, and the parameters are ones the
spec gives a meaning to. Every operand field is a bit vector of the encoding's width, so no operand can be ill-formed
(R122: no field of a defined opcode has an illegal value). -/
namespace Sys2Proof

/-- A term is a whole instruction: every row but the prefix byte alone ("It is not an instruction of its own", R123). -/
def Instr.wellFormed (i : Instr) : Bool := decide (i ≠ .cbPrefix)

/-- The parameters have a meaning: under MBC1 the ROM is a non-zero multiple of 16 KiB, "and a model refuses any other
size" (R93, D27, U4). Every other value of every parameter is accepted (R9, D37, D38). -/
def Params.accepted (p : Params) : Bool :=
  match p.cartKind with
  | .romOnly => true
  | .mbc1 => p.romSize ≠ 0 && p.romSize % 0x4000 = 0

end Sys2Proof
end

