-- ==== Sys2Proof/Machine/State.lean ====
section
/-! DEFINITION. The state of the core (10_state.md), as plain data, its reset values for both profiles (70_reset_and_hazards.md
rule R400), and the reasons a step can stop. -/
namespace Sys2Proof.Machine

/-! ## Stops -/

/-- There is no fault: "`fault`: never used, because the core has no synchronous exceptions" (93 Part 1, R300), no access is
ever an error (R61, R79) and no instruction traps. The type has no constructor, so no step can answer one. -/
inductive Fault
deriving DecidableEq, Repr

/-- Why a step gives no meaning (`refuse`, R15). -/
inductive Refusal
  /-- Raised by an arm of `exec` for an instruction without a meaning; no arm of this model does. Safe. -/
  | notModelled (mnemonic : String)
  /-- Raised by the 11 undefined opcodes under `ILLEGAL_OPCODE_POLICY = REFUSE` only (R149, D31, U1). Safe. -/
  | undefinedOpcode (op : Byte)
  /-- Raised by a step whose parameters name an MBC1 cartridge with a ROM that is not a non-zero multiple of 16 KiB: "a
  model refuses any other size" (R93, D27, U4). Safe. -/
  | romSize (size : Nat)
  /-- Raised by a step whose fetched bytes are no instruction. No state reaches it (the fetch takes as many bytes as the
  opcode asks for, and both dispatch tables are total, R141). Safe. -/
  | fetch (e : DecodeError)
deriving DecidableEq, Repr

/-! ## CPU state -/

/-- The general registers but F (R20). -/
structure Regs where
  a : Byte
  b : Byte
  c : Byte
  d : Byte
  e : Byte
  h : Byte
  l : Byte
deriving DecidableEq, Repr

/-- The flags, which are register F: F is `{Z, N, H, C, 0000}` (R22, R23; `Flags.pack`). -/
structure Flags where
  z : Bool
  n : Bool
  h : Bool
  c : Bool
deriving DecidableEq, Repr

/-- The operand latches of the instruction in flight (R33), and the address its opcode was fetched at, which the decode
diagnostic of R149 reports (log entry 7). -/
structure Latches where
  lo : Byte
  hi : Byte
  t : Byte
  taken : Bool
  opAddr : Word
deriving DecidableEq, Repr

/-- The memory operand of a one-byte access: (BC), (DE), (HL), (nn), 0xFF00 + n, 0xFF00 + C (R112, R113). -/
inductive Addr
  | bc | de | hl
  | abs (nn : Word)
  | high (n : Byte)
  | highC
deriving DecidableEq, Repr

/-- One M-cycle of work (R16, R32, R135): its bus access and its register effects. A first M-cycle's opcode fetch and the
operand fetches are not in it; the work of an instruction begins in the M-cycle of its last fetch. Semantics:
`MicroOp.run` in Machine/Ops.lean. -/
inductive MicroOp
  | idle
  -- 8-bit loads (41_load8.md)
  | ldRR (dst src : R8)
  | ldRN (dst : R8) (n : Byte)
  | load (dst : R8) (addr : Addr)
  | store (addr : Addr) (src : R8)
  | storeN (addr : Addr) (n : Byte)
  | loadHlInc | loadHlDec
  | storeHlInc | storeHlDec
  -- 16-bit loads and stack (42_load16.md)
  | ldPair (p : Pair) (nn : Word)
  | storeSpLo (nn : Word)
  | storeSpHi (nn : Word)
  | ldSpHl
  | pushHi (p : StackPair)
  | pushLo (p : StackPair)
  | popLo
  | popHi
  | popPair (p : StackPair)
  | ldHlSp (e : Byte)
  -- 8-bit arithmetic (43_alu8.md)
  | aluR (op : AluOp) (src : R8)
  | aluN (op : AluOp) (n : Byte)
  | aluHl (op : AluOp)
  | incR (r : R8)
  | decR (r : R8)
  | readHl
  | incHl
  | decHl
  | daa | cpl | scf | ccf
  -- 16-bit arithmetic (44_alu16.md)
  | addHl (p : Pair)
  | incPair (p : Pair)
  | decPair (p : Pair)
  | addSp (e : Byte)
  -- rotates, shifts and bits (45_rotate_shift_bit.md)
  | accRot (op : AccRot)
  | cbR (op : CbOp) (r : R8)
  | cbHl (op : CbOp)
  | bitR (b : Fin 8) (r : R8)
  | bitHl (b : Fin 8)
  | resR (b : Fin 8) (r : R8)
  | resHl (b : Fin 8)
  | setR (b : Fin 8) (r : R8)
  | setHl (b : Fin 8)
  -- control transfer (46_control.md)
  | test (cc : Cond)
  | jump (nn : Word)
  | jumpHl
  | jumpRel (e : Byte)
  | pushPcHi
  | pushPcLo
  | pushPcLoJump (nn : Word)
  | retJump
  | retiJump
  -- engine control and interrupt service (40_execution_engine.md, 60_exceptions.md)
  | di | ei | halt | stop
  | diagnose (op : Byte)
  | vector
deriving DecidableEq, Repr

/-- What a schedule in flight is: an instruction, whose completion advances the EI delay, or an interrupt service, whose
completion does not (R131, R134). -/
inductive WorkKind
  | instruction
  | service
deriving DecidableEq, Repr

/-- The sequencer's work in flight (R32): nothing, an instruction whose operand bytes are still to be fetched (the bytes it
has), or the M-cycles still to run, at least one (R150). -/
inductive Inflight
  | none
  | operand (op : Byte)
  | operand2 (op lo : Byte)
  | running (kind : WorkKind) (next : MicroOp) (rest : List MicroOp)
deriving DecidableEq, Repr

/-- A decode-error event of the diagnostic log (R36, R149). -/
structure Diagnostic where
  opcode : Byte
  address : Word
deriving DecidableEq, Repr

/-! ## Device state -/

/-- The timer (R38). -/
structure Timer where
  divCounter : Word
  tima : Byte
  tma : Byte
  tac : BitVec 3
  lastSampledBit : Bool
  reloadDelay : Nat
deriving DecidableEq, Repr

/-- The display controller's modes (R40, R351). -/
inductive Mode
  | hblank | vblank | oam | transfer
deriving DecidableEq, Repr

/-- The frame buffer: 144 lines of 160 pixels, line 0 at the top (R368). -/
abbrev FrameBuffer := List (List Pixel)

/-- The display controller (R40). -/
structure Lcd where
  lcdc : Byte
  /-- STAT[6:3]: bit 0 the HBlank source, bit 1 VBlank, bit 2 OAM, bit 3 LYC (R42). -/
  statEnables : BitVec 4
  coincidence : Bool
  mode : Mode
  scy : Byte
  scx : Byte
  ly : Byte
  lyc : Byte
  bgp : Byte
  obp0 : Byte
  obp1 : Byte
  wy : Byte
  wx : Byte
  dot : Nat
  frame : FrameBuffer
deriving DecidableEq, Repr

/-- The OAM DMA controller (R46). -/
structure Dma where
  active : Bool
  source : Word
  index : Nat
  acc : Nat
  reg : Byte
deriving DecidableEq, Repr

/-- The MBC1 bank controller (R48). -/
structure Mbc1 where
  ramEnabled : Bool
  bankLow : BitVec 5
  bankHigh : BitVec 2
  bankMode : Bool
deriving DecidableEq, Repr

/-! ## The whole state -/

/-- The core's state (10_state.md), with the parameters the step reads (`params`) beside it. -/
structure State where
  regs : Regs
  flags : Flags
  sp : Word
  pc : Word
  ime : Bool
  eiDelay : Nat
  haltBug : Bool
  halted : Bool
  inflight : Inflight
  latches : Latches
  /-- Clock cycles since reset (R35). -/
  clock : Nat
  /-- The diagnostic log, oldest first (R36). -/
  diagnostics : List Diagnostic
  /-- IE (R37). -/
  ie : BitVec 5
  /-- IF (R37). -/
  iflag : BitVec 5
  timer : Timer
  lcd : Lcd
  /-- The frame events handed to the host, oldest first (R10, R369). -/
  frames : List FrameBuffer
  /-- 0x8000-0x9FFF by offset (R45). -/
  vram : Memory
  /-- 0xC000-0xDFFF by offset (R45). -/
  wram : Memory
  /-- 0xFE00-0xFE9F by offset (R45). -/
  oam : Memory
  /-- 0xFF80-0xFFFE by offset (R45). -/
  hram : Memory
  /-- External cartridge RAM by offset (R45). -/
  eram : Memory
  dma : Dma
  bootEnabled : Bool
  mbc1 : Mbc1
  joySelect : BitVec 2
  params : Params
deriving DecidableEq, Repr

/-- The outcome of one step. -/
abbrev Result := Host.Outcome State Fault Refusal

/-! ## Reset -/

/-- A line of white pixels. -/
def whiteLine : List Pixel := List.replicate 160 0xFFFFFFFF

/-- The frame buffer at reset: every pixel white (R44). -/
def whiteFrame : FrameBuffer := List.replicate 144 whiteLine

/-- `RAM_INIT` (R9, R45, D4): the initial contents of the five RAM arrays. -/
structure RamInit where
  vram : Memory
  wram : Memory
  oam : Memory
  hram : Memory
  eram : Memory
deriving DecidableEq, Repr

/-- Nothing listed: every RAM byte reads `unlistedByte` (log entry 4). -/
def RamInit.unlisted : RamInit := ⟨[], [], [], [], []⟩

/-- The state under `BOOT` (R25, R26, R28 to R33, R35 to R37, R39, R44, R46 to R49): the hardware at power-on. The latches'
values are DESIGN CHOICE: the spec leaves them unspecified and never read before written (R33, log entry 8). -/
def State.resetBoot (params : Params) (ram : RamInit) : State where
  regs := { a := 0x00, b := 0x00, c := 0x00, d := 0x00, e := 0x00, h := 0x00, l := 0x00 }
  flags := { z := false, n := false, h := false, c := false }
  sp := 0x0000
  pc := 0x0000
  ime := false
  eiDelay := 0
  haltBug := false
  halted := false
  inflight := .none
  latches := { lo := 0x00, hi := 0x00, t := 0x00, taken := false, opAddr := 0x0000 }
  clock := 0
  diagnostics := []
  ie := 0x00
  iflag := 0x00
  timer := { divCounter := 0x0000, tima := 0x00, tma := 0x00, tac := 0b000, lastSampledBit := false, reloadDelay := 0 }
  lcd :=
    { lcdc := 0x00, statEnables := 0b0000, coincidence := true, mode := .hblank, scy := 0x00, scx := 0x00, ly := 0,
      lyc := 0x00, bgp := 0x00, obp0 := 0x00, obp1 := 0x00, wy := 0x00, wx := 0x00, dot := 0, frame := whiteFrame }
  frames := []
  vram := ram.vram
  wram := ram.wram
  oam := ram.oam
  hram := ram.hram
  eram := ram.eram
  dma := { active := false, source := 0x0000, index := 0, acc := 0, reg := 0x00 }
  bootEnabled := true
  mbc1 := { ramEnabled := false, bankLow := 1, bankHigh := 0, bankMode := false }
  joySelect := 0b11
  params := params

/-- The state under `POST_BOOT` (the same rules' second columns): what the boot ROM leaves at the hand-over. -/
def State.resetPostBoot (params : Params) (ram : RamInit) : State :=
  { State.resetBoot params ram with
    regs := { a := 0x01, b := 0x00, c := 0x13, d := 0x00, e := 0xD8, h := 0x01, l := 0x4D }
    flags := { z := true, n := false, h := true, c := true }
    sp := 0xFFFE
    pc := 0x0100
    iflag := 0x01
    timer := { divCounter := 0xABCC, tima := 0x00, tma := 0x00, tac := 0b000, lastSampledBit := false, reloadDelay := 0 }
    lcd :=
      { lcdc := 0x91, statEnables := 0b0000, coincidence := true, mode := .oam, scy := 0x00, scx := 0x00, ly := 0,
        lyc := 0x00, bgp := 0xFC, obp0 := 0xFF, obp1 := 0xFF, wy := 0x00, wx := 0x00, dot := 0, frame := whiteFrame }
    dma := { active := false, source := 0x0000, index := 0, acc := 0, reg := 0xFF }
    bootEnabled := false }

/-- Reset (R400): every piece of state at its value for the selected `RESET_PROFILE`. -/
def State.resetFor (profile : ResetProfile) (params : Params) (ram : RamInit) : State :=
  match profile with
  | .boot => State.resetBoot params ram
  | .postBoot => State.resetPostBoot params ram

/-- The machine right after reset: the profile `BOOT`, "the state of the hardware at power-on" (R400), with the default
parameters and no RAM byte listed. DESIGN CHOICE among the profiles and parameters (log entries 1, 3, 4). -/
def State.reset : State := State.resetFor .boot Params.default RamInit.unlisted

end Sys2Proof.Machine
end

