-- ==== Sys2Proof/Machine/Interrupt.lean ====
section
/-! DEFINITION. The interrupt controller: IE and IF (60_exceptions.md rules R301 to R305). -/
namespace Sys2Proof.Machine

/-- `request(i)`: set IF bit i (R301). -/
def State.request (s : State) (i : Nat) : State := { s with iflag := s.iflag ||| (1#5 <<< i) }

/-- `pending() = IE & IF & 0x1F` (R302). -/
def State.pending (s : State) : BitVec 5 := s.ie &&& s.iflag

/-- `acknowledge(i)`: clear IF bit i (R303). -/
def State.acknowledge (s : State) (i : Nat) : State := { s with iflag := s.iflag &&& ~~~(1#5 <<< i) }

/-- The lowest set bit of the pending bits: the interrupt of highest priority (R304). None when no bit is set. -/
def lowestBit (p : BitVec 5) : Option Nat :=
  if p.getLsbD 0 then some 0
  else if p.getLsbD 1 then some 1
  else if p.getLsbD 2 then some 2
  else if p.getLsbD 3 then some 3
  else if p.getLsbD 4 then some 4
  else none

/-- The vector of interrupt i: 0x0040 + 8 * i (R37, R310). -/
def vectorOf (i : Nat) : Word := BitVec.ofNat 16 (0x0040 + 8 * i)

/-- A read of IE (R78): bits 7:5 read 1. -/
def State.readIe (s : State) : Byte := 0b111#3 ++ s.ie

/-- A read of IF (R73): bits 7:5 read 1. -/
def State.readIf (s : State) : Byte := 0b111#3 ++ s.iflag

/-- A write of IE: `IE <- v & 0x1F` (R78). -/
def State.writeIe (s : State) (v : Byte) : State := { s with ie := v.extractLsb' 0 5 }

/-- A write of IF: `IF <- v & 0x1F` (R73). -/
def State.writeIf (s : State) (v : Byte) : State := { s with iflag := v.extractLsb' 0 5 }

end Sys2Proof.Machine
end

