-- ==== Sys2Proof/Machine/Display.lean ====
section
/-! DEFINITION. The display controller (60_exceptions.md rules R350 to R371): the mode machine, dot by dot, the STAT
sources, the background scanline renderer, and its registers. -/
namespace Sys2Proof.Machine

/-! ## Modes -/

/-- The dots of a line and the lines of a frame (R351, R353). -/
def dotsPerLine : Nat := 456

def linesPerFrame : Nat := 154

/-- `modeOf(ly, d)` (R351). -/
def modeOf (ly : Byte) (d : Nat) : Mode :=
  if 144 ≤ ly.toNat then .vblank
  else if d < 80 then .oam
  else if d < 252 then .transfer
  else .hblank

/-- The mode code of STAT[1:0] (R42). -/
def Mode.code (m : Mode) : BitVec 2 :=
  match m with
  | .hblank => 0
  | .vblank => 1
  | .oam => 2
  | .transfer => 3

/-- LCDC[7], the display enable (R41). -/
def Lcd.enabled (d : Lcd) : Bool := d.lcdc.getLsbD 7

/-- A read of STAT: `0x80 | (enables << 3) | (coincidence << 2) | modeCode` (R42). -/
def Lcd.stat (d : Lcd) : Byte := 1#1 ++ d.statEnables ++ BitVec.ofBool d.coincidence ++ d.mode.code

/-- The LYC source line, `coincidence ∧ STAT[6]` (R358). -/
def Lcd.lycLine (d : Lcd) : Bool := d.coincidence && d.statEnables.getLsbD 3

/-! ## The scanline renderer -/

/-- The VRAM offset of a tile's first byte (R365). -/
def tileBase (lcdc idx : Byte) : Nat :=
  if lcdc.getLsbD 4 then idx.toNat * 16 else 0x0800 + (idx.toInt + 128).toNat * 16

/-- `shade(id) = (BGP >> (2 * id)) & 3` (R366). -/
def shade (bgp : Byte) (id : BitVec 2) : BitVec 2 := (bgp >>> (2 * id.toNat)).extractLsb' 0 2

/-- `gray(s)` packed as an opaque pixel (R366, D34). -/
def gray (s : BitVec 2) : Pixel :=
  let g : Byte :=
    match s with
    | 0 => 0xFF
    | 1 => 0xAA
    | 2 => 0x55
    | 3 => 0x00
  0xFF#8 ++ g ++ g ++ g

/-- The color id of column `x` of line `ly` (R364). -/
def colorId (d : Lcd) (vram : Memory) (ly : Byte) (x : Nat) : BitVec 2 :=
  let y := (ly + d.scy).toNat
  let mx := (BitVec.ofNat 8 x + d.scx).toNat
  let map := if d.lcdc.getLsbD 3 then 0x1C00 else 0x1800
  let idx := vram.read (map + y / 8 * 32 + mx / 8)
  let row := tileBase d.lcdc idx + y % 8 * 2
  let b := 7 - mx % 8
  BitVec.ofBool ((vram.read (row + 1)).getLsbD b) ++ BitVec.ofBool ((vram.read row).getLsbD b)

/-- The pixel of column `x` of line `ly` (R364, R367). -/
def pixelAt (d : Lcd) (vram : Memory) (ly : Byte) (x : Nat) : Pixel :=
  if d.lcdc.getLsbD 0 then gray (shade d.bgp (colorId d vram ly x)) else 0xFFFFFFFF

/-- `render_line(ly)`: line `ly` of the frame buffer is rewritten (R364, R368). The renderer reads VRAM directly. -/
def renderLine (d : Lcd) (vram : Memory) (ly : Byte) : Lcd :=
  { d with frame := d.frame.set ly.toNat ((List.range 160).map (pixelAt d vram ly)) }

/-! ## One dot -/

/-- Request LCD-STAT, bit 1, when a condition holds. -/
def State.requestStat (s : State) (fires : Bool) : State := if fires then s.request 1 else s

/-- `update_coincidence()` with `old`, the LYC source line before the change: the flag is `LY = LYC`, and the rising edge of
the line requests LCD-STAT (R358). -/
def State.updateCoincidence (s : State) (old : Bool) : State :=
  let d := { s.lcd with coincidence := decide (s.lcd.ly = s.lcd.lyc) }
  State.requestStat { s with lcd := d } (d.lycLine && !old)

/-- `on_enter(m)`: the actions of a mode's entry (R354 to R357). -/
def State.onEnter (s : State) (m : Mode) : State :=
  match m with
  | .oam => s.requestStat (s.lcd.statEnables.getLsbD 2)
  | .transfer => s
  | .hblank =>
    State.requestStat { s with lcd := renderLine s.lcd s.vram s.lcd.ly } (s.lcd.statEnables.getLsbD 0)
  | .vblank =>
    State.requestStat (State.request { s with frames := s.frames ++ [s.lcd.frame] } 0) (s.lcd.statEnables.getLsbD 1)

/-- `lcd_off_dot()`: a dot with the display disabled (R361). -/
def Lcd.offDot (d : Lcd) : Lcd :=
  { d with ly := 0, dot := 0, mode := .hblank, coincidence := decide (0 = d.lyc) }

/-- LY of the next line: `(LY + 1) mod 154` (R352, R353). -/
def nextLine (ly : Byte) : Byte := BitVec.ofNat 8 ((ly.toNat + 1) % linesPerFrame)

/-- The dot counter advances, and with it, at dot 456, the line (R352, R353). -/
def State.advanceDot (s : State) : State :=
  if s.lcd.dot + 1 = dotsPerLine then
    State.updateCoincidence { s with lcd := { s.lcd with dot := 0, ly := nextLine s.lcd.ly } } s.lcd.lycLine
  else { s with lcd := { s.lcd with dot := s.lcd.dot + 1 } }

/-- The mode follows LY and the dot; a change runs the new mode's entry once (R352). -/
def State.enterMode (s : State) : State :=
  let m := modeOf s.lcd.ly s.lcd.dot
  if m = s.lcd.mode then s else State.onEnter { s with lcd := { s.lcd with mode := m } } m

/-- `dot_tick()`: one dot (R352, R361). -/
def State.dotTick (s : State) : State :=
  if s.lcd.enabled then s.advanceDot.enterMode else { s with lcd := s.lcd.offDot }

/-- `display_tick(n)` (R350). -/
def State.displayTick : Nat → State → State
  | 0, s => s
  | n + 1, s => State.displayTick n s.dotTick

/-! ## Registers -/

/-- A read of 0xFF40 to 0xFF4B but 0xFF46 (R370). -/
def Lcd.readReg (d : Lcd) (addr : Nat) : Byte :=
  match addr with
  | 0xFF40 => d.lcdc
  | 0xFF41 => d.stat
  | 0xFF42 => d.scy
  | 0xFF43 => d.scx
  | 0xFF44 => d.ly
  | 0xFF45 => d.lyc
  | 0xFF47 => d.bgp
  | 0xFF48 => d.obp0
  | 0xFF49 => d.obp1
  | 0xFF4A => d.wy
  | 0xFF4B => d.wx
  | _ => 0xFF

/-- A write of STAT: the enables are stored, then the LYC edge is tested against the line under the old enables (R360). -/
def State.writeStat (s : State) (v : Byte) : State :=
  let old := s.lcd.lycLine
  let d := { s.lcd with statEnables := v.extractLsb' 3 4 }
  State.requestStat { s with lcd := d } (d.lycLine && !old)

/-- A write of v to 0xFF40 to 0xFF4B but 0xFF46 (R359, R360, R362, R363). -/
def State.writeLcdReg (s : State) (addr : Nat) (v : Byte) : State :=
  match addr with
  | 0xFF40 => { s with lcd := { s.lcd with lcdc := v } }
  | 0xFF41 => s.writeStat v
  | 0xFF42 => { s with lcd := { s.lcd with scy := v } }
  | 0xFF43 => { s with lcd := { s.lcd with scx := v } }
  | 0xFF44 => State.updateCoincidence { s with lcd := { s.lcd with ly := 0 } } s.lcd.lycLine
  | 0xFF45 => State.updateCoincidence { s with lcd := { s.lcd with lyc := v } } s.lcd.lycLine
  | 0xFF47 => { s with lcd := { s.lcd with bgp := v } }
  | 0xFF48 => { s with lcd := { s.lcd with obp0 := v } }
  | 0xFF49 => { s with lcd := { s.lcd with obp1 := v } }
  | 0xFF4A => { s with lcd := { s.lcd with wy := v } }
  | 0xFF4B => { s with lcd := { s.lcd with wx := v } }
  | _ => s

end Sys2Proof.Machine
end

