-- ==== Sys2Proof/Machine/Timer.lean ====
section
/-! DEFINITION. The timer DIV/TIMA/TMA/TAC (60_exceptions.md rules R330 to R342). -/
namespace Sys2Proof.Machine

/-- The counter bit a clock select monitors: 9, 3, 5, 7 for 0 to 3 (R331). -/
def timerBit (select : BitVec 2) : Nat :=
  match select with
  | 0 => 9
  | 1 => 3
  | 2 => 5
  | 3 => 7

/-- `sampled()`: the monitored counter bit gated by TAC's enable (R331). -/
def Timer.sampled (t : Timer) : Bool :=
  t.tac.getLsbD 2 && t.divCounter.getLsbD (timerBit (t.tac.extractLsb' 0 2))

/-- `incrementTIMA()`: suppressed during the reload delay; the overflow starts the delay (R333). -/
def Timer.increment (t : Timer) : Timer :=
  if 0 < t.reloadDelay then t
  else if t.tima = 0xFF then { t with tima := 0x00, reloadDelay := 4 }
  else { t with tima := t.tima + 1 }

/-- `edge_check()`: a falling edge of the sampled bit increments TIMA (R332). -/
def Timer.edgeCheck (t : Timer) : Timer :=
  let newBit := t.sampled
  let t := if t.lastSampledBit && !newBit then t.increment else t
  { t with lastSampledBit := newBit }

/-- The reload countdown of one timer clock (R332, R334): whether it reaches 0 in this clock, and the timer after it. -/
def Timer.countdown (t : Timer) : Bool × Timer :=
  if 0 < t.reloadDelay then
    let t := { t with reloadDelay := t.reloadDelay - 1 }
    if t.reloadDelay = 0 then (true, { t with tima := t.tma }) else (false, t)
  else (false, t)

/-- The counter increment of one timer clock and its edge check (R332). -/
def Timer.count (t : Timer) : Timer :=
  Timer.edgeCheck { t with divCounter := t.divCounter + 1 }

/-- `timer_tick1()`: one timer clock (R332). The delayed reload requests the Timer interrupt, bit 2 (R334). -/
def State.timerTick1 (s : State) : State :=
  let (reloaded, t) := s.timer.countdown
  let s := if reloaded then s.request 2 else s
  { s with timer := t.count }

/-- `timer_tick(n)` (R341). -/
def State.timerTick : Nat → State → State
  | 0, s => s
  | n + 1, s => State.timerTick n s.timerTick1

/-- A read of 0xFF04 to 0xFF07 (R336, R337, R338, R340). -/
def Timer.readReg (t : Timer) (addr : Nat) : Byte :=
  match addr with
  | 0xFF04 => hiByte t.divCounter
  | 0xFF05 => t.tima
  | 0xFF06 => t.tma
  | 0xFF07 => 0b11111#5 ++ t.tac
  | _ => 0xFF

/-- A write of v to 0xFF04 to 0xFF07 (R336 to R339). -/
def Timer.writeReg (t : Timer) (addr : Nat) (v : Byte) : Timer :=
  match addr with
  | 0xFF04 => Timer.edgeCheck { t with divCounter := 0 }
  | 0xFF05 => if t.reloadDelay = 0 then { t with tima := v } else t
  | 0xFF06 => { t with tma := v }
  | 0xFF07 => Timer.edgeCheck { t with tac := v.extractLsb' 0 3 }
  | _ => t

end Sys2Proof.Machine
end

