-- ==== Sys2Proof/Machine/Bus.lean ====
section
/-! DEFINITION. The system bus (20_memory.md): the address decode of rule R62 row by row, the cartridge logic (R85 to R94),
the boot overlay, and the DMA block over the CPU's accesses. Every read returns a byte and every write is stored or dropped;
none is an error (R61). -/
namespace Sys2Proof.Machine

/-- The open-bus value (R79). -/
def openBus : Byte := 0xFF

/-! ## Cartridge -/

/-- `romBankCount = romSize / 0x4000` (R48, R93). -/
def Params.romBankCount (p : Params) : Nat := p.romSize / 0x4000

/-- `ramBankCount = max(1, ceil(ERAM_SIZE / 0x2000))` (R94, D25). -/
def Params.ramBankCount (p : Params) : Nat := max 1 ((p.eramSize + 0x1FFF) / 0x2000)

/-- The ROM bank of the fixed window 0x0000-0x3FFF (R92). -/
def Mbc1.fixedBank (m : Mbc1) (bankCount : Nat) : Nat :=
  if m.bankMode then (m.bankHigh.toNat * 32) % bankCount else 0

/-- The ROM bank of the switchable window 0x4000-0x7FFF (R93). -/
def Mbc1.switchBank (m : Mbc1) (bankCount : Nat) : Nat :=
  let bank := (m.bankHigh.toNat * 32 + m.bankLow.toNat) % bankCount
  if bank = 0 ∧ 1 < bankCount then 1 else bank

/-- The RAM bank of the window 0xA000-0xBFFF (R94). -/
def Mbc1.ramBank (m : Mbc1) (bankCount : Nat) : Nat :=
  if m.bankMode then m.bankHigh.toNat % bankCount else 0

/-- The ROM offset the cartridge reads for `a` in 0x0000-0x7FFF (R86, R92, R93). -/
def State.romOffset (s : State) (a : Nat) : Nat :=
  match s.params.cartKind with
  | .romOnly => a
  | .mbc1 =>
    if a < 0x4000 then s.mbc1.fixedBank (Params.romBankCount s.params) * 0x4000 + a
    else s.mbc1.switchBank (Params.romBankCount s.params) * 0x4000 + (a - 0x4000)

/-- `readROM(a)` (R64, R86, R92, R93). -/
def State.readRom (s : State) (a : Nat) : Byte :=
  if s.romOffset a < s.params.romSize then s.params.rom.read (s.romOffset a) else openBus

/-- An MBC1 register write (R88 to R91). -/
def Mbc1.writeReg (m : Mbc1) (a : Nat) (v : Byte) : Mbc1 :=
  if a < 0x2000 then { m with ramEnabled := decide (v.extractLsb' 0 4 = 0xA) }
  else if a < 0x4000 then
    let x : BitVec 5 := v.extractLsb' 0 5
    { m with bankLow := if x = 0 then 1 else x }
  else if a < 0x6000 then { m with bankHigh := v.extractLsb' 0 2 }
  else { m with bankMode := v.getLsbD 0 }

/-- `writeROM(a, v)` (R64, R86, R88 to R91). -/
def State.writeRom (s : State) (a : Nat) (v : Byte) : State :=
  match s.params.cartKind with
  | .romOnly => s
  | .mbc1 => { s with mbc1 := s.mbc1.writeReg a v }

/-- The external RAM offset an access at `a` in 0xA000-0xBFFF reaches, none when no RAM answers (R87, R94). -/
def State.eramOffset (s : State) (a : Nat) : Option Nat :=
  let off :=
    match s.params.cartKind with
    | .romOnly => a - 0xA000
    | .mbc1 => s.mbc1.ramBank (Params.ramBankCount s.params) * 0x2000 + (a - 0xA000)
  let gated := s.params.cartKind = .mbc1 ∧ s.mbc1.ramEnabled = false
  if off < s.params.eramSize ∧ ¬ gated then some off else none

/-- `readERAM(a)` (R66, R87, R94). -/
def State.readEram (s : State) (a : Nat) : Byte :=
  match s.eramOffset a with
  | some off => s.eram.read off
  | none => openBus

/-- `writeERAM(a, v)` (R66, R87, R94). -/
def State.writeEram (s : State) (a : Nat) (v : Byte) : State :=
  match s.eramOffset a with
  | some off => { s with eram := s.eram.write off v }
  | none => s

/-! ## Registers of the I/O page -/

/-- A read of 0xFF00: `0xC0 | (joySelect << 4) | j`, with `j` the host's draw (R71, log entry 5). -/
def State.readJoypad (s : State) : Byte := 0b11#2 ++ s.joySelect ++ Config.joypad s.clock

/-- A write of 0xFF00: the selector is `v[5:4]` (R71). -/
def State.writeJoypad (s : State) (v : Byte) : State := { s with joySelect := v.extractLsb' 4 2 }

/-- A write of 0xFF46: the transfer starts, or restarts, from byte 0 (R95). -/
def State.startDma (s : State) (v : Byte) : State :=
  { s with dma := { active := true, source := mkWord v 0x00, index := 0, acc := 0, reg := v } }

/-- A write of 0xFF50: any non-zero value disables the boot overlay for good (R76). -/
def State.writeBoot (s : State) (v : Byte) : State :=
  if v = 0 then s else { s with bootEnabled := false }

/-! ## The decode of rule R62, rows 1 to 16 -/

/-- Row 1's condition: the boot overlay answers a read at `a` (R63). -/
def State.bootCovers (s : State) (a : Nat) : Bool :=
  s.bootEnabled && decide (a < s.params.bootLen) && decide (a < 0x100)

/-- A read through rows 1 to 16 of R62: the DMA controller's read (R97), and the CPU's when no transfer blocks it. -/
def State.busRead (s : State) (addr : Word) : Byte :=
  let a := addr.toNat
  if s.bootCovers a then s.params.bootRom.read a
  else if a ≤ 0x7FFF then s.readRom a
  else if a ≤ 0x9FFF then s.vram.read (a - 0x8000)
  else if a ≤ 0xBFFF then s.readEram a
  else if a ≤ 0xDFFF then s.wram.read (a - 0xC000)
  else if a ≤ 0xFDFF then s.wram.read (a - 0xE000)
  else if a ≤ 0xFE9F then s.oam.read (a - 0xFE00)
  else if a = 0xFF00 then s.readJoypad
  else if 0xFF04 ≤ a ∧ a ≤ 0xFF07 then s.timer.readReg a
  else if a = 0xFF0F then s.readIf
  else if 0xFF10 ≤ a ∧ a ≤ 0xFF3F then 0xFF
  else if a = 0xFF46 then s.dma.reg
  else if 0xFF40 ≤ a ∧ a ≤ 0xFF4B then s.lcd.readReg a
  else if a = 0xFF50 then 0xFF
  else if 0xFF80 ≤ a ∧ a ≤ 0xFFFE then s.hram.read (a - 0xFF80)
  else if a = 0xFFFF then s.readIe
  else openBus

/-- A write through rows 2 to 16 of R62 (the overlay claims no write, R63). -/
def State.busWrite (s : State) (addr : Word) (v : Byte) : State :=
  let a := addr.toNat
  if a ≤ 0x7FFF then s.writeRom a v
  else if a ≤ 0x9FFF then { s with vram := s.vram.write (a - 0x8000) v }
  else if a ≤ 0xBFFF then s.writeEram a v
  else if a ≤ 0xDFFF then { s with wram := s.wram.write (a - 0xC000) v }
  else if a ≤ 0xFDFF then { s with wram := s.wram.write (a - 0xE000) v }
  else if a ≤ 0xFE9F then { s with oam := s.oam.write (a - 0xFE00) v }
  else if a = 0xFF00 then s.writeJoypad v
  else if 0xFF04 ≤ a ∧ a ≤ 0xFF07 then { s with timer := s.timer.writeReg a v }
  else if a = 0xFF0F then s.writeIf v
  else if 0xFF10 ≤ a ∧ a ≤ 0xFF3F then s
  else if a = 0xFF46 then s.startDma v
  else if 0xFF40 ≤ a ∧ a ≤ 0xFF4B then s.writeLcdReg a v
  else if a = 0xFF50 then s.writeBoot v
  else if 0xFF80 ≤ a ∧ a ≤ 0xFFFE then { s with hram := s.hram.write (a - 0xFF80) v }
  else if a = 0xFFFF then s.writeIe v
  else s

/-! ## The CPU's accesses -/

/-- Row 0's condition: an active transfer blocks a CPU access at `a` (R62, R98). -/
def State.dmaBlocks (s : State) (addr : Word) : Bool :=
  let a := addr.toNat
  s.dma.active && !(decide (0xFF80 ≤ a) && decide (a ≤ 0xFFFE)) && decide (a ≠ 0xFF46)

/-- `MemRead(addr)` (R14, R61): one CPU bus read. -/
def State.memRead (s : State) (addr : Word) : Byte :=
  if s.dmaBlocks addr then 0xFF else s.busRead addr

/-- `MemWrite(addr, v)` (R14, R61): one CPU bus write. -/
def State.memWrite (s : State) (addr : Word) (v : Byte) : State :=
  if s.dmaBlocks addr then s else s.busWrite addr v

end Sys2Proof.Machine
end

