-- ==== Sys2Proof/Machine/Dma.lean ====
section
/-! DEFINITION. The OAM DMA controller (20_memory.md rules R95 to R99), and the peripherals' part of one system step
(40_execution_engine.md rule R130). -/
namespace Sys2Proof.Machine

/-- OAM holds 160 bytes, which is also the length of a transfer (R45, R95). -/
def oamSize : Nat := 160

/-- One byte of the transfer: `OAM[dmaIndex] <- DmaRead(dmaSource + dmaIndex)`, and the transfer ends after byte 159
(R96). -/
def State.dmaCopyByte (s : State) : State :=
  let v := s.busRead (s.dma.source + BitVec.ofNat 16 s.dma.index)
  let s := { s with oam := if s.dma.index < oamSize then s.oam.write s.dma.index v else s.oam }
  let next := s.dma.index + 1
  if next = oamSize then { s with dma := { s.dma with index := next, active := false, acc := 0 } }
  else { s with dma := { s.dma with index := next, acc := s.dma.acc - 4 } }

/-- The loop of `dma_tick`, at most `k` times (R96). -/
def State.dmaLoop : Nat → State → State
  | 0, s => s
  | k + 1, s => if 4 ≤ s.dma.acc ∧ s.dma.active then State.dmaLoop k s.dmaCopyByte else s

/-- `dma_tick(n)` (R96): one byte for every 4 accumulated clock cycles. -/
def State.dmaTick (n : Nat) (s : State) : State :=
  if s.dma.active then
    let acc := s.dma.acc + n
    State.dmaLoop (acc / 4) { s with dma := { s.dma with acc := acc } }
  else s

/-- The part of a system step after the CPU's M-cycle (R130): the display controller's 4 dots, the timer's 4 clocks, the DMA
controller's byte, then the clock (R142). -/
def State.tick (s : State) : State :=
  let s := ((s.displayTick 4).timerTick 4).dmaTick 4
  { s with clock := s.clock + 4 }

end Sys2Proof.Machine
end

