-- ==== Sys2Proof/Machine/Flags.lean ====
section
/-! DEFINITION. The ALU: every result and flag computation of 43_alu8.md, 44_alu16.md and 45_rotate_shift_bit.md, as
functions of the operands and the flags before. Sums and differences are exact, on naturals or integers, and narrowed at the
end (R11, R217). A flag a rule does not name is kept. -/
namespace Sys2Proof.Machine

/-! ## Register F -/

/-- F as a byte: `{Z, N, H, C, 0b0000}` (R22, R23). -/
def Flags.pack (f : Flags) : Byte :=
  BitVec.ofBool f.z ++ BitVec.ofBool f.n ++ BitVec.ofBool f.h ++ BitVec.ofBool f.c ++ 0b0000#4

/-- A write of F keeps `v & 0xF0` (R22, R23). -/
def Flags.unpack (v : Byte) : Flags :=
  { z := v.getLsbD 7, n := v.getLsbD 6, h := v.getLsbD 5, c := v.getLsbD 4 }

/-! ## 8-bit arithmetic and logic -/

/-- ADD and ADC: `a + v + carry` (R201, R202). -/
def addCarry (a v : Byte) (carry : Bool) : Byte × Flags :=
  let res := a.toNat + v.toNat + carry.toNat
  let r := BitVec.ofNat 8 res
  (r, { z := decide (r = 0), n := false, h := decide (0xF < a.toNat % 16 + v.toNat % 16 + carry.toNat),
        c := decide (0xFF < res) })

/-- SUB, SBC and CP: `a - v - carry` (R203, R204, R208). -/
def subCarry (a v : Byte) (carry : Bool) : Byte × Flags :=
  let res : Int := (a.toNat : Int) - v.toNat - carry.toNat
  let r := BitVec.ofInt 8 res
  (r, { z := decide (r = 0), n := true, h := decide (((a.toNat % 16 : Nat) : Int) - (v.toNat % 16 : Nat) - carry.toNat < 0),
        c := decide (res < 0) })

/-- The flags of AND, XOR and OR (R205 to R207). -/
def logicFlags (r : Byte) (h : Bool) : Flags := { z := decide (r = 0), n := false, h := h, c := false }

/-- The eight ALU operations on the accumulator and an operand (R200 to R208): the new accumulator and flags. CP leaves the
accumulator. -/
def alu (op : AluOp) (f : Flags) (a v : Byte) : Byte × Flags :=
  match op with
  | .add => addCarry a v false
  | .adc => addCarry a v f.c
  | .sub => subCarry a v false
  | .sbc => subCarry a v f.c
  | .and => (a &&& v, logicFlags (a &&& v) true)
  | .xor => (a ^^^ v, logicFlags (a ^^^ v) false)
  | .or => (a ||| v, logicFlags (a ||| v) false)
  | .cp => (a, (subCarry a v false).2)

/-- INC: C is kept (R209, R210). -/
def inc8 (f : Flags) (x : Byte) : Byte × Flags :=
  (x + 1, { f with z := decide (x + 1 = 0), n := false, h := decide (0xF < x.toNat % 16 + 1) })

/-- DEC: C is kept (R211, R212). -/
def dec8 (f : Flags) (x : Byte) : Byte × Flags :=
  (x - 1, { f with z := decide (x - 1 = 0), n := true, h := decide (x.toNat % 16 = 0) })

/-- DAA (R213): both tests under N = 0 read A before any adjustment (D10). -/
def daaResult (f : Flags) (a : Byte) : Byte × Flags :=
  if f.n then
    let adj : Byte := (if f.h then 0x06 else 0) ||| (if f.c then 0x60 else 0)
    (a - adj, { f with z := decide (a - adj = 0), h := false })
  else
    let low := f.h || decide (9 < a.toNat % 16)
    let high := f.c || decide (0x99 < a.toNat)
    let adj : Byte := (if low then 0x06 else 0) ||| (if high then 0x60 else 0)
    (a + adj, { f with z := decide (a + adj = 0), h := false, c := high })

/-- CPL (R214). -/
def cplResult (f : Flags) (a : Byte) : Byte × Flags := (~~~a, { f with n := true, h := true })

/-- SCF (R215). -/
def scfFlags (f : Flags) : Flags := { f with n := false, h := false, c := true }

/-- CCF (R216). -/
def ccfFlags (f : Flags) : Flags := { f with n := false, h := false, c := !f.c }

/-! ## 16-bit arithmetic -/

/-- ADD HL,rr: Z is kept (R230). -/
def addHlResult (f : Flags) (a b : Word) : Word × Flags :=
  (a + b, { f with n := false, h := decide (0xFFF < a.toNat % 0x1000 + b.toNat % 0x1000),
                   c := decide (0xFFFF < a.toNat + b.toNat) })

/-- ADD SP,e and LD HL,SP+e: the flags come from the unsigned sum of the low bytes (R233, R195). -/
def addSpE (sp : Word) (t : Byte) : Word × Flags :=
  (sp + sext16 t, { z := false, n := false, h := decide (0xF < sp.toNat % 16 + t.toNat % 16),
                    c := decide (0xFF < sp.toNat % 256 + t.toNat) })

/-! ## Rotates, shifts and bits -/

/-- A rotate, shift or SWAP: the result and the bit that goes to C (R245 to R252). -/
def rotate (op : CbOp) (c : Bool) (x : Byte) : Byte × Bool :=
  match op with
  | .rlc => ((x <<< 1) ||| (BitVec.ofBool (x.getLsbD 7)).setWidth 8, x.getLsbD 7)
  | .rrc => ((x >>> 1) ||| ((BitVec.ofBool (x.getLsbD 0)).setWidth 8 <<< 7), x.getLsbD 0)
  | .rl => ((x <<< 1) ||| (BitVec.ofBool c).setWidth 8, x.getLsbD 7)
  | .rr => ((x >>> 1) ||| ((BitVec.ofBool c).setWidth 8 <<< 7), x.getLsbD 0)
  | .sla => (x <<< 1, x.getLsbD 7)
  | .sra => ((x >>> 1) ||| (x &&& 0x80), x.getLsbD 0)
  | .swap => (((x &&& 0x0F) <<< 4) ||| (x >>> 4), false)
  | .srl => (x >>> 1, x.getLsbD 0)

/-- The CB operations: Z from the result, N = H = 0 (R245 to R252). -/
def cbResult (op : CbOp) (f : Flags) (x : Byte) : Byte × Flags :=
  let (r, out) := rotate op f.c x
  (r, { z := decide (r = 0), n := false, h := false, c := out })

/-- The CB rotation an accumulator rotate performs. -/
def accRotOp (r : AccRot) : CbOp :=
  match r with
  | .rlca => .rlc
  | .rrca => .rrc
  | .rla => .rl
  | .rra => .rr

/-- RLCA, RRCA, RLA, RRA: Z, N and H are 0 (R240 to R243). -/
def accRotate (r : AccRot) (f : Flags) (a : Byte) : Byte × Flags :=
  let (res, out) := rotate (accRotOp r) f.c a
  (res, { z := false, n := false, h := false, c := out })

/-- BIT b: C is kept (R253). -/
def bitFlags (b : Fin 8) (f : Flags) (x : Byte) : Flags := { f with z := !x.getLsbD b, n := false, h := true }

/-- RES b (R254). -/
def resBit (b : Fin 8) (x : Byte) : Byte := x &&& ~~~(1#8 <<< b.val)

/-- SET b (R255). -/
def setBit (b : Fin 8) (x : Byte) : Byte := x ||| (1#8 <<< b.val)

/-! ## Conditions -/

/-- `cond(cc)` (R115, R281). -/
def condHolds (cc : Cond) (f : Flags) : Bool :=
  match cc with
  | .nz => !f.z
  | .z => f.z
  | .nc => !f.c
  | .c => f.c

end Sys2Proof.Machine
end

