-- ==== Sys2Proof/Machine/Operands.lean ====
section
/-! DEFINITION. The operands: registers, register pairs and the addresses of memory operands (10_state.md rules R20 to R24,
30_encoding.md rules R112 to R115). -/
namespace Sys2Proof.Machine

/-- The register an `r` field names (R113). -/
def State.reg (s : State) (r : R8) : Byte :=
  match r with
  | .b => s.regs.b
  | .c => s.regs.c
  | .d => s.regs.d
  | .e => s.regs.e
  | .h => s.regs.h
  | .l => s.regs.l
  | .a => s.regs.a

/-- The register file with one register written (R20). -/
def Regs.set (g : Regs) (r : R8) (v : Byte) : Regs :=
  match r with
  | .b => { g with b := v }
  | .c => { g with c := v }
  | .d => { g with d := v }
  | .e => { g with e := v }
  | .h => { g with h := v }
  | .l => { g with l := v }
  | .a => { g with a := v }

/-- Write one register. -/
def State.setReg (s : State) (r : R8) (v : Byte) : State := { s with regs := s.regs.set r v }

/-- Write the flags. -/
def State.setFlags (s : State) (f : Flags) : State := { s with flags := f }

/-- `BC` (R21). -/
def State.bc (s : State) : Word := mkWord s.regs.b s.regs.c

/-- `DE` (R21). -/
def State.de (s : State) : Word := mkWord s.regs.d s.regs.e

/-- `HL` (R21). -/
def State.hl (s : State) : Word := mkWord s.regs.h s.regs.l

/-- `AF`: F's low nibble reads zero (R21, R22). -/
def State.af (s : State) : Word := mkWord s.regs.a s.flags.pack

/-- `HL <- v` (R21). -/
def State.setHl (s : State) (v : Word) : State := { s with regs := { s.regs with h := hiByte v, l := loByte v } }

/-- A pair of the `p` field with SP (R114). -/
def State.pair (s : State) (p : Pair) : Word :=
  match p with
  | .bc => s.bc
  | .de => s.de
  | .hl => s.hl
  | .sp => s.sp

/-- Write a pair of the `p` field with SP (R21, R114). -/
def State.setPair (s : State) (p : Pair) (v : Word) : State :=
  match p with
  | .bc => { s with regs := { s.regs with b := hiByte v, c := loByte v } }
  | .de => { s with regs := { s.regs with d := hiByte v, e := loByte v } }
  | .hl => s.setHl v
  | .sp => { s with sp := v }

/-- A pair of the `p` field with AF (R114). -/
def State.stackPair (s : State) (p : StackPair) : Word :=
  match p with
  | .bc => s.bc
  | .de => s.de
  | .hl => s.hl
  | .af => s.af

/-- Write a pair of the `p` field with AF; F keeps `v & 0xF0` (R21, R22, R114, R194). -/
def State.setStackPair (s : State) (p : StackPair) (v : Word) : State :=
  match p with
  | .bc => { s with regs := { s.regs with b := hiByte v, c := loByte v } }
  | .de => { s with regs := { s.regs with d := hiByte v, e := loByte v } }
  | .hl => s.setHl v
  | .af => { s with regs := { s.regs with a := hiByte v }, flags := Flags.unpack (loByte v) }

/-- The address of a memory operand (R112, R113). -/
def State.address (s : State) (a : Addr) : Word :=
  match a with
  | .bc => s.bc
  | .de => s.de
  | .hl => s.hl
  | .abs nn => nn
  | .high n => mkWord 0xFF n
  | .highC => mkWord 0xFF s.regs.c

end Sys2Proof.Machine
end

