-- ==== Sys2Proof/Machine/Ops.lean ====
section
/-! DEFINITION. The execution engine's shared operations (40_execution_engine.md): stack bytes, the M-cycle's work, running a
schedule, taking an interrupt and the return from one, the EI delay, and the fetches. -/
namespace Sys2Proof.Machine

/-! ## Stack -/

/-- Push of one byte: `SP <- SP - 1; MemWrite(SP, v)` (R151). -/
def State.pushByte (s : State) (v : Byte) : State := State.memWrite { s with sp := s.sp - 1 } (s.sp - 1) v

/-- Pop of one byte: `v <- MemRead(SP); SP <- SP + 1` (R152). -/
def State.popByte (s : State) : Byte × State := (s.memRead s.sp, { s with sp := s.sp + 1 })

/-- Pop into the latch `lo` (R194, R277). -/
def State.popLo (s : State) : State :=
  let (v, s) := s.popByte
  { s with latches := { s.latches with lo := v } }

/-- Pop into the latch `hi` (R194, R277). -/
def State.popHi (s : State) : State :=
  let (v, s) := s.popByte
  { s with latches := { s.latches with hi := v } }

/-- `{hi, lo}` of the latches. -/
def State.latched (s : State) : Word := mkWord s.latches.hi s.latches.lo

/-! ## Interrupt entry and return -/

/-- The last M-cycle of interrupt service (R310, R311): PC is the vector of the highest-priority interrupt pending NOW, whose
IF bit is cleared, or 0x0000 when none is pending any more; IME and `halted` are cleared. -/
def State.enterVector (s : State) : State :=
  let s :=
    match lowestBit s.pending with
    | some i => { s.acknowledge i with pc := vectorOf i }
    | none => { s with pc := 0x0000 }
  { s with ime := false, halted := false }

/-- The last M-cycle of RETI (R279, R314): `PC <- {hi, lo}; IME <- 1; eiDelay <- 0`. -/
def State.returnFromInterrupt (s : State) : State := { s with pc := s.latched, ime := true, eiDelay := 0 }

/-! ## Engine control -/

/-- EI (R146): the delay is armed when IME = 0 and no delay is armed. -/
def State.armEi (s : State) : State := if s.ime = false ∧ s.eiDelay = 0 then { s with eiDelay := 2 } else s

/-- `ei_tick()`: an instruction completes (R134). -/
def State.eiTick (s : State) : State :=
  if 0 < s.eiDelay then
    let s := { s with eiDelay := s.eiDelay - 1 }
    if s.eiDelay = 0 then { s with ime := true } else s
  else s

/-- HALT (R147): with IME = 0 and an interrupt pending, the HALT bug; otherwise the engine halts. -/
def State.enterHalt (s : State) : State :=
  if s.ime = false ∧ s.pending ≠ 0 then { s with haltBug := true } else { s with halted := true }

/-- STOP (R148): PC moves past the ignored byte of its format, if `STOP_MODE` gives it one, without a bus access. -/
def State.stopStep (s : State) : State := { s with pc := s.pc + BitVec.ofNat 16 (ignoredBytes s.params.stopMode 0x10) }

/-- `diagnose(decodeError, …)`: the opcode and the address it was fetched at (R149). -/
def State.diagnose (s : State) (op : Byte) : State :=
  { s with diagnostics := s.diagnostics ++ [{ opcode := op, address := s.latches.opAddr }] }

/-! ## The work of one M-cycle -/

/-- A read of (HL) into the latch `t`. -/
def State.readT (s : State) : State := { s with latches := { s.latches with t := s.memRead s.hl } }

/-- Write (HL) and the flags, both computed from the latch `t`. -/
def State.writeHl (s : State) (r : Byte × Flags) : State := (s.setFlags r.2).memWrite s.hl r.1

/-- Write a register and the flags. -/
def State.setResult (s : State) (dst : R8) (r : Byte × Flags) : State := (s.setReg dst r.1).setFlags r.2

/-- What an M-cycle does (R135): at most one bus access, and its register effects. -/
def MicroOp.run (m : MicroOp) (s : State) : State :=
  match m with
  | .idle => s
  | .ldRR dst src => s.setReg dst (s.reg src)
  | .ldRN dst n => s.setReg dst n
  | .load dst addr => s.setReg dst (s.memRead (s.address addr))
  | .store addr src => s.memWrite (s.address addr) (s.reg src)
  | .storeN addr n => s.memWrite (s.address addr) n
  | .loadHlInc => (s.setReg .a (s.memRead s.hl)).setHl (s.hl + 1)
  | .loadHlDec => (s.setReg .a (s.memRead s.hl)).setHl (s.hl - 1)
  | .storeHlInc => (s.memWrite s.hl s.regs.a).setHl (s.hl + 1)
  | .storeHlDec => (s.memWrite s.hl s.regs.a).setHl (s.hl - 1)
  | .ldPair p nn => s.setPair p nn
  | .storeSpLo nn => s.memWrite nn (loByte s.sp)
  | .storeSpHi nn => s.memWrite (nn + 1) (hiByte s.sp)
  | .ldSpHl => { s with sp := s.hl }
  | .pushHi p => s.pushByte (hiByte (s.stackPair p))
  | .pushLo p => s.pushByte (loByte (s.stackPair p))
  | .popLo => s.popLo
  | .popHi => s.popHi
  | .popPair p => s.popHi.setStackPair p s.popHi.latched
  | .ldHlSp e => (s.setHl (addSpE s.sp e).1).setFlags (addSpE s.sp e).2
  | .aluR op src => s.setResult .a (alu op s.flags s.regs.a (s.reg src))
  | .aluN op n => s.setResult .a (alu op s.flags s.regs.a n)
  | .aluHl op => s.readT.setResult .a (alu op s.flags s.regs.a (s.memRead s.hl))
  | .incR r => s.setResult r (inc8 s.flags (s.reg r))
  | .decR r => s.setResult r (dec8 s.flags (s.reg r))
  | .readHl => s.readT
  | .incHl => s.writeHl (inc8 s.flags s.latches.t)
  | .decHl => s.writeHl (dec8 s.flags s.latches.t)
  | .daa => s.setResult .a (daaResult s.flags s.regs.a)
  | .cpl => s.setResult .a (cplResult s.flags s.regs.a)
  | .scf => s.setFlags (scfFlags s.flags)
  | .ccf => s.setFlags (ccfFlags s.flags)
  | .addHl p => (s.setHl (addHlResult s.flags s.hl (s.pair p)).1).setFlags (addHlResult s.flags s.hl (s.pair p)).2
  | .incPair p => s.setPair p (s.pair p + 1)
  | .decPair p => s.setPair p (s.pair p - 1)
  | .addSp e => { s with sp := (addSpE s.sp e).1, flags := (addSpE s.sp e).2 }
  | .accRot op => s.setResult .a (accRotate op s.flags s.regs.a)
  | .cbR op r => s.setResult r (cbResult op s.flags (s.reg r))
  | .cbHl op => s.writeHl (cbResult op s.flags s.latches.t)
  | .bitR b r => s.setFlags (bitFlags b s.flags (s.reg r))
  | .bitHl b => s.readT.setFlags (bitFlags b s.flags (s.memRead s.hl))
  | .resR b r => s.setReg r (resBit b (s.reg r))
  | .resHl b => s.memWrite s.hl (resBit b s.latches.t)
  | .setR b r => s.setReg r (setBit b (s.reg r))
  | .setHl b => s.memWrite s.hl (setBit b s.latches.t)
  | .test cc => { s with latches := { s.latches with taken := condHolds cc s.flags } }
  | .jump nn => { s with pc := nn }
  | .jumpHl => { s with pc := s.hl }
  | .jumpRel e => { s with pc := s.pc + sext16 e }
  | .pushPcHi => s.pushByte (hiByte s.pc)
  | .pushPcLo => s.pushByte (loByte s.pc)
  | .pushPcLoJump nn => { s.pushByte (loByte s.pc) with pc := nn }
  | .retJump => { s with pc := s.latched }
  | .retiJump => s.returnFromInterrupt
  | .di => { s with ime := false, eiDelay := 0 }
  | .ei => s.armEi
  | .halt => s.enterHalt
  | .stop => s.stopStep
  | .diagnose op => s.diagnose op
  | .vector => s.enterVector

/-- Whether a schedule ends early after this M-cycle: a condition that failed (R281). -/
def MicroOp.ends (m : MicroOp) (s : State) : Bool :=
  match m with
  | .test _ => !s.latches.taken
  | _ => false

/-! ## Schedules -/

/-- Run a schedule from within its first M-cycle, the peripherals' part of a system step between every two M-cycles (R130,
R135, R136). The system step of the last M-cycle is the caller's to end. -/
def runSchedule : List MicroOp → State → State
  | [], s => s
  | [m], s => m.run s
  | m :: next :: rest, s =>
    let s := m.run s
    if m.ends s then s else runSchedule (next :: rest) s.tick

/-- The M-cycles of interrupt service (R310): two idle, the push of PC high byte first, the vector. -/
def serviceSchedule : List MicroOp := [.idle, .idle, .pushPcHi, .pushPcLo, .vector]

/-- Taking an interrupt (R132, R310 to R312): `halted` is cleared, PC is saved on the stack, and the vector is entered. Nothing
else is saved. -/
def State.takeInterrupt (s : State) : State := runSchedule serviceSchedule { s with halted := false }

/-- The end of an instruction's last system step: the EI delay, then the peripherals (R130, R131, R134). -/
def State.complete (s : State) : State := s.eiTick.tick

/-! ## Fetch -/

/-- The opcode fetch (R137), with the HALT bug's suppressed increment (R138). -/
def State.fetchOpcode (s : State) : Byte × State :=
  (s.memRead s.pc,
    { s with pc := if s.haltBug then s.pc else s.pc + 1, haltBug := false,
             latches := { s.latches with opAddr := s.pc } })

/-- The fetch of the byte after the opcode: an operand, which is latched in `t` (R139), or the CB opcode (R140). -/
def State.fetchByte (s : State) (op : Byte) : Byte × State :=
  let b := s.memRead s.pc
  (b, { s with pc := s.pc + 1, latches := { s.latches with t := if op = 0xCB then s.latches.t else b } })

/-- The last operand fetch of a 3-byte instruction, its M3, latched in `hi` too (R139). -/
def State.fetchThird (s : State) (op lo : Byte) : List Byte × State :=
  let (b, s) := s.fetchByte op
  ([op, lo, b], { s with latches := { s.latches with hi := b } })

/-- The latch `lo` of a 3-byte instruction's first operand byte (R139). -/
def State.latchLo (s : State) (b : Byte) : State := { s with latches := { s.latches with lo := b } }

/-- The fetches of an instruction from its M2 on (R123, R139, R140). -/
def State.fetchSecond (s : State) (op : Byte) : List Byte × State :=
  let (b, s) := s.fetchByte op
  if fetchedLength op = 2 then ([op, b], s) else (s.latchLo b).tick.fetchThird op b

/-- The fetches of a whole instruction (R137 to R140): its bytes, and the state inside the M-cycle of the last fetch. -/
def State.fetchInstr (s : State) : List Byte × State :=
  let (op, s) := s.fetchOpcode
  if fetchedLength op = 1 then ([op], s) else s.tick.fetchSecond op

end Sys2Proof.Machine
end

