-- ==== Sys2Proof/Machine/Alu16.lean ====
section
/-! DEFINITION. The meanings of 16-bit arithmetic (44_alu16.md).
Each instruction has its schedule, the work of its M-cycles from the one of its last
fetch on, and its meaning, which runs the schedule to its end with the peripherals' part of a system step between every two
M-cycles. The system step of the last M-cycle is ended by the step (Machine/Sequencer.lean). -/
namespace Sys2Proof.Machine

/-- INC BC (03), R231. -/
def sched_inc_BC : List MicroOp := [.idle, .incPair .bc]

/-- INC BC (03), R231. -/
def exec_inc_BC (s : State) : Result := .next (runSchedule sched_inc_BC s)

/-- ADD HL,BC (09), R230. -/
def sched_add_HL_BC : List MicroOp := [.idle, .addHl .bc]

/-- ADD HL,BC (09), R230. -/
def exec_add_HL_BC (s : State) : Result := .next (runSchedule sched_add_HL_BC s)

/-- DEC BC (0B), R232. -/
def sched_dec_BC : List MicroOp := [.idle, .decPair .bc]

/-- DEC BC (0B), R232. -/
def exec_dec_BC (s : State) : Result := .next (runSchedule sched_dec_BC s)

/-- INC DE (13), R231. -/
def sched_inc_DE : List MicroOp := [.idle, .incPair .de]

/-- INC DE (13), R231. -/
def exec_inc_DE (s : State) : Result := .next (runSchedule sched_inc_DE s)

/-- ADD HL,DE (19), R230. -/
def sched_add_HL_DE : List MicroOp := [.idle, .addHl .de]

/-- ADD HL,DE (19), R230. -/
def exec_add_HL_DE (s : State) : Result := .next (runSchedule sched_add_HL_DE s)

/-- DEC DE (1B), R232. -/
def sched_dec_DE : List MicroOp := [.idle, .decPair .de]

/-- DEC DE (1B), R232. -/
def exec_dec_DE (s : State) : Result := .next (runSchedule sched_dec_DE s)

/-- INC HL (23), R231. -/
def sched_inc_HL : List MicroOp := [.idle, .incPair .hl]

/-- INC HL (23), R231. -/
def exec_inc_HL (s : State) : Result := .next (runSchedule sched_inc_HL s)

/-- ADD HL,HL (29), R230. -/
def sched_add_HL_HL : List MicroOp := [.idle, .addHl .hl]

/-- ADD HL,HL (29), R230. -/
def exec_add_HL_HL (s : State) : Result := .next (runSchedule sched_add_HL_HL s)

/-- DEC HL (2B), R232. -/
def sched_dec_HL : List MicroOp := [.idle, .decPair .hl]

/-- DEC HL (2B), R232. -/
def exec_dec_HL (s : State) : Result := .next (runSchedule sched_dec_HL s)

/-- INC SP (33), R231. -/
def sched_inc_SP : List MicroOp := [.idle, .incPair .sp]

/-- INC SP (33), R231. -/
def exec_inc_SP (s : State) : Result := .next (runSchedule sched_inc_SP s)

/-- ADD HL,SP (39), R230. -/
def sched_add_HL_SP : List MicroOp := [.idle, .addHl .sp]

/-- ADD HL,SP (39), R230. -/
def exec_add_HL_SP (s : State) : Result := .next (runSchedule sched_add_HL_SP s)

/-- DEC SP (3B), R232. -/
def sched_dec_SP : List MicroOp := [.idle, .decPair .sp]

/-- DEC SP (3B), R232. -/
def exec_dec_SP (s : State) : Result := .next (runSchedule sched_dec_SP s)

/-- ADD SP,e (E8), R233. -/
def sched_add_SP_e (e : Byte) : List MicroOp := [.idle, .idle, .addSp e]

/-- ADD SP,e (E8), R233. -/
def exec_add_SP_e (e : Byte) (s : State) : Result := .next (runSchedule (sched_add_SP_e e) s)

end Sys2Proof.Machine
end

