-- ==== Sys2Proof/Machine/Alu8.lean ====
section
/-! DEFINITION. The meanings of 8-bit arithmetic and logic (43_alu8.md).
Each instruction has its schedule, the work of its M-cycles from the one of its last
fetch on, and its meaning, which runs the schedule to its end with the peripherals' part of a system step between every two
M-cycles. The system step of the last M-cycle is ended by the step (Machine/Sequencer.lean). -/
namespace Sys2Proof.Machine

/-- INC B (04), R209. -/
def sched_inc_B : List MicroOp := [.incR .b]

/-- INC B (04), R209. -/
def exec_inc_B (s : State) : Result := .next (runSchedule sched_inc_B s)

/-- DEC B (05), R211. -/
def sched_dec_B : List MicroOp := [.decR .b]

/-- DEC B (05), R211. -/
def exec_dec_B (s : State) : Result := .next (runSchedule sched_dec_B s)

/-- INC C (0C), R209. -/
def sched_inc_C : List MicroOp := [.incR .c]

/-- INC C (0C), R209. -/
def exec_inc_C (s : State) : Result := .next (runSchedule sched_inc_C s)

/-- DEC C (0D), R211. -/
def sched_dec_C : List MicroOp := [.decR .c]

/-- DEC C (0D), R211. -/
def exec_dec_C (s : State) : Result := .next (runSchedule sched_dec_C s)

/-- INC D (14), R209. -/
def sched_inc_D : List MicroOp := [.incR .d]

/-- INC D (14), R209. -/
def exec_inc_D (s : State) : Result := .next (runSchedule sched_inc_D s)

/-- DEC D (15), R211. -/
def sched_dec_D : List MicroOp := [.decR .d]

/-- DEC D (15), R211. -/
def exec_dec_D (s : State) : Result := .next (runSchedule sched_dec_D s)

/-- INC E (1C), R209. -/
def sched_inc_E : List MicroOp := [.incR .e]

/-- INC E (1C), R209. -/
def exec_inc_E (s : State) : Result := .next (runSchedule sched_inc_E s)

/-- DEC E (1D), R211. -/
def sched_dec_E : List MicroOp := [.decR .e]

/-- DEC E (1D), R211. -/
def exec_dec_E (s : State) : Result := .next (runSchedule sched_dec_E s)

/-- INC H (24), R209. -/
def sched_inc_H : List MicroOp := [.incR .h]

/-- INC H (24), R209. -/
def exec_inc_H (s : State) : Result := .next (runSchedule sched_inc_H s)

/-- DEC H (25), R211. -/
def sched_dec_H : List MicroOp := [.decR .h]

/-- DEC H (25), R211. -/
def exec_dec_H (s : State) : Result := .next (runSchedule sched_dec_H s)

/-- DAA (27), R213. -/
def sched_daa : List MicroOp := [.daa]

/-- DAA (27), R213. -/
def exec_daa (s : State) : Result := .next (runSchedule sched_daa s)

/-- INC L (2C), R209. -/
def sched_inc_L : List MicroOp := [.incR .l]

/-- INC L (2C), R209. -/
def exec_inc_L (s : State) : Result := .next (runSchedule sched_inc_L s)

/-- DEC L (2D), R211. -/
def sched_dec_L : List MicroOp := [.decR .l]

/-- DEC L (2D), R211. -/
def exec_dec_L (s : State) : Result := .next (runSchedule sched_dec_L s)

/-- CPL (2F), R214. -/
def sched_cpl : List MicroOp := [.cpl]

/-- CPL (2F), R214. -/
def exec_cpl (s : State) : Result := .next (runSchedule sched_cpl s)

/-- INC (HL) (34), R210. -/
def sched_inc_atHL : List MicroOp := [.idle, .readHl, .incHl]

/-- INC (HL) (34), R210. -/
def exec_inc_atHL (s : State) : Result := .next (runSchedule sched_inc_atHL s)

/-- DEC (HL) (35), R212. -/
def sched_dec_atHL : List MicroOp := [.idle, .readHl, .decHl]

/-- DEC (HL) (35), R212. -/
def exec_dec_atHL (s : State) : Result := .next (runSchedule sched_dec_atHL s)

/-- SCF (37), R215. -/
def sched_scf : List MicroOp := [.scf]

/-- SCF (37), R215. -/
def exec_scf (s : State) : Result := .next (runSchedule sched_scf s)

/-- INC A (3C), R209. -/
def sched_inc_A : List MicroOp := [.incR .a]

/-- INC A (3C), R209. -/
def exec_inc_A (s : State) : Result := .next (runSchedule sched_inc_A s)

/-- DEC A (3D), R211. -/
def sched_dec_A : List MicroOp := [.decR .a]

/-- DEC A (3D), R211. -/
def exec_dec_A (s : State) : Result := .next (runSchedule sched_dec_A s)

/-- CCF (3F), R216. -/
def sched_ccf : List MicroOp := [.ccf]

/-- CCF (3F), R216. -/
def exec_ccf (s : State) : Result := .next (runSchedule sched_ccf s)

/-- ADD A,B (80), R201. -/
def sched_add_A_B : List MicroOp := [.aluR .add .b]

/-- ADD A,B (80), R201. -/
def exec_add_A_B (s : State) : Result := .next (runSchedule sched_add_A_B s)

/-- ADD A,C (81), R201. -/
def sched_add_A_C : List MicroOp := [.aluR .add .c]

/-- ADD A,C (81), R201. -/
def exec_add_A_C (s : State) : Result := .next (runSchedule sched_add_A_C s)

/-- ADD A,D (82), R201. -/
def sched_add_A_D : List MicroOp := [.aluR .add .d]

/-- ADD A,D (82), R201. -/
def exec_add_A_D (s : State) : Result := .next (runSchedule sched_add_A_D s)

/-- ADD A,E (83), R201. -/
def sched_add_A_E : List MicroOp := [.aluR .add .e]

/-- ADD A,E (83), R201. -/
def exec_add_A_E (s : State) : Result := .next (runSchedule sched_add_A_E s)

/-- ADD A,H (84), R201. -/
def sched_add_A_H : List MicroOp := [.aluR .add .h]

/-- ADD A,H (84), R201. -/
def exec_add_A_H (s : State) : Result := .next (runSchedule sched_add_A_H s)

/-- ADD A,L (85), R201. -/
def sched_add_A_L : List MicroOp := [.aluR .add .l]

/-- ADD A,L (85), R201. -/
def exec_add_A_L (s : State) : Result := .next (runSchedule sched_add_A_L s)

/-- ADD A,(HL) (86), R201. -/
def sched_add_A_atHL : List MicroOp := [.idle, .aluHl .add]

/-- ADD A,(HL) (86), R201. -/
def exec_add_A_atHL (s : State) : Result := .next (runSchedule sched_add_A_atHL s)

/-- ADD A,A (87), R201. -/
def sched_add_A_A : List MicroOp := [.aluR .add .a]

/-- ADD A,A (87), R201. -/
def exec_add_A_A (s : State) : Result := .next (runSchedule sched_add_A_A s)

/-- ADC A,B (88), R202. -/
def sched_adc_A_B : List MicroOp := [.aluR .adc .b]

/-- ADC A,B (88), R202. -/
def exec_adc_A_B (s : State) : Result := .next (runSchedule sched_adc_A_B s)

/-- ADC A,C (89), R202. -/
def sched_adc_A_C : List MicroOp := [.aluR .adc .c]

/-- ADC A,C (89), R202. -/
def exec_adc_A_C (s : State) : Result := .next (runSchedule sched_adc_A_C s)

/-- ADC A,D (8A), R202. -/
def sched_adc_A_D : List MicroOp := [.aluR .adc .d]

/-- ADC A,D (8A), R202. -/
def exec_adc_A_D (s : State) : Result := .next (runSchedule sched_adc_A_D s)

/-- ADC A,E (8B), R202. -/
def sched_adc_A_E : List MicroOp := [.aluR .adc .e]

/-- ADC A,E (8B), R202. -/
def exec_adc_A_E (s : State) : Result := .next (runSchedule sched_adc_A_E s)

/-- ADC A,H (8C), R202. -/
def sched_adc_A_H : List MicroOp := [.aluR .adc .h]

/-- ADC A,H (8C), R202. -/
def exec_adc_A_H (s : State) : Result := .next (runSchedule sched_adc_A_H s)

/-- ADC A,L (8D), R202. -/
def sched_adc_A_L : List MicroOp := [.aluR .adc .l]

/-- ADC A,L (8D), R202. -/
def exec_adc_A_L (s : State) : Result := .next (runSchedule sched_adc_A_L s)

/-- ADC A,(HL) (8E), R202. -/
def sched_adc_A_atHL : List MicroOp := [.idle, .aluHl .adc]

/-- ADC A,(HL) (8E), R202. -/
def exec_adc_A_atHL (s : State) : Result := .next (runSchedule sched_adc_A_atHL s)

/-- ADC A,A (8F), R202. -/
def sched_adc_A_A : List MicroOp := [.aluR .adc .a]

/-- ADC A,A (8F), R202. -/
def exec_adc_A_A (s : State) : Result := .next (runSchedule sched_adc_A_A s)

/-- SUB B (90), R203. -/
def sched_sub_B : List MicroOp := [.aluR .sub .b]

/-- SUB B (90), R203. -/
def exec_sub_B (s : State) : Result := .next (runSchedule sched_sub_B s)

/-- SUB C (91), R203. -/
def sched_sub_C : List MicroOp := [.aluR .sub .c]

/-- SUB C (91), R203. -/
def exec_sub_C (s : State) : Result := .next (runSchedule sched_sub_C s)

/-- SUB D (92), R203. -/
def sched_sub_D : List MicroOp := [.aluR .sub .d]

/-- SUB D (92), R203. -/
def exec_sub_D (s : State) : Result := .next (runSchedule sched_sub_D s)

/-- SUB E (93), R203. -/
def sched_sub_E : List MicroOp := [.aluR .sub .e]

/-- SUB E (93), R203. -/
def exec_sub_E (s : State) : Result := .next (runSchedule sched_sub_E s)

/-- SUB H (94), R203. -/
def sched_sub_H : List MicroOp := [.aluR .sub .h]

/-- SUB H (94), R203. -/
def exec_sub_H (s : State) : Result := .next (runSchedule sched_sub_H s)

/-- SUB L (95), R203. -/
def sched_sub_L : List MicroOp := [.aluR .sub .l]

/-- SUB L (95), R203. -/
def exec_sub_L (s : State) : Result := .next (runSchedule sched_sub_L s)

/-- SUB (HL) (96), R203. -/
def sched_sub_atHL : List MicroOp := [.idle, .aluHl .sub]

/-- SUB (HL) (96), R203. -/
def exec_sub_atHL (s : State) : Result := .next (runSchedule sched_sub_atHL s)

/-- SUB A (97), R203. -/
def sched_sub_A : List MicroOp := [.aluR .sub .a]

/-- SUB A (97), R203. -/
def exec_sub_A (s : State) : Result := .next (runSchedule sched_sub_A s)

/-- SBC A,B (98), R204. -/
def sched_sbc_A_B : List MicroOp := [.aluR .sbc .b]

/-- SBC A,B (98), R204. -/
def exec_sbc_A_B (s : State) : Result := .next (runSchedule sched_sbc_A_B s)

/-- SBC A,C (99), R204. -/
def sched_sbc_A_C : List MicroOp := [.aluR .sbc .c]

/-- SBC A,C (99), R204. -/
def exec_sbc_A_C (s : State) : Result := .next (runSchedule sched_sbc_A_C s)

/-- SBC A,D (9A), R204. -/
def sched_sbc_A_D : List MicroOp := [.aluR .sbc .d]

/-- SBC A,D (9A), R204. -/
def exec_sbc_A_D (s : State) : Result := .next (runSchedule sched_sbc_A_D s)

/-- SBC A,E (9B), R204. -/
def sched_sbc_A_E : List MicroOp := [.aluR .sbc .e]

/-- SBC A,E (9B), R204. -/
def exec_sbc_A_E (s : State) : Result := .next (runSchedule sched_sbc_A_E s)

/-- SBC A,H (9C), R204. -/
def sched_sbc_A_H : List MicroOp := [.aluR .sbc .h]

/-- SBC A,H (9C), R204. -/
def exec_sbc_A_H (s : State) : Result := .next (runSchedule sched_sbc_A_H s)

/-- SBC A,L (9D), R204. -/
def sched_sbc_A_L : List MicroOp := [.aluR .sbc .l]

/-- SBC A,L (9D), R204. -/
def exec_sbc_A_L (s : State) : Result := .next (runSchedule sched_sbc_A_L s)

/-- SBC A,(HL) (9E), R204. -/
def sched_sbc_A_atHL : List MicroOp := [.idle, .aluHl .sbc]

/-- SBC A,(HL) (9E), R204. -/
def exec_sbc_A_atHL (s : State) : Result := .next (runSchedule sched_sbc_A_atHL s)

/-- SBC A,A (9F), R204. -/
def sched_sbc_A_A : List MicroOp := [.aluR .sbc .a]

/-- SBC A,A (9F), R204. -/
def exec_sbc_A_A (s : State) : Result := .next (runSchedule sched_sbc_A_A s)

/-- AND B (A0), R205. -/
def sched_and_B : List MicroOp := [.aluR .and .b]

/-- AND B (A0), R205. -/
def exec_and_B (s : State) : Result := .next (runSchedule sched_and_B s)

/-- AND C (A1), R205. -/
def sched_and_C : List MicroOp := [.aluR .and .c]

/-- AND C (A1), R205. -/
def exec_and_C (s : State) : Result := .next (runSchedule sched_and_C s)

/-- AND D (A2), R205. -/
def sched_and_D : List MicroOp := [.aluR .and .d]

/-- AND D (A2), R205. -/
def exec_and_D (s : State) : Result := .next (runSchedule sched_and_D s)

/-- AND E (A3), R205. -/
def sched_and_E : List MicroOp := [.aluR .and .e]

/-- AND E (A3), R205. -/
def exec_and_E (s : State) : Result := .next (runSchedule sched_and_E s)

/-- AND H (A4), R205. -/
def sched_and_H : List MicroOp := [.aluR .and .h]

/-- AND H (A4), R205. -/
def exec_and_H (s : State) : Result := .next (runSchedule sched_and_H s)

/-- AND L (A5), R205. -/
def sched_and_L : List MicroOp := [.aluR .and .l]

/-- AND L (A5), R205. -/
def exec_and_L (s : State) : Result := .next (runSchedule sched_and_L s)

/-- AND (HL) (A6), R205. -/
def sched_and_atHL : List MicroOp := [.idle, .aluHl .and]

/-- AND (HL) (A6), R205. -/
def exec_and_atHL (s : State) : Result := .next (runSchedule sched_and_atHL s)

/-- AND A (A7), R205. -/
def sched_and_A : List MicroOp := [.aluR .and .a]

/-- AND A (A7), R205. -/
def exec_and_A (s : State) : Result := .next (runSchedule sched_and_A s)

/-- XOR B (A8), R206. -/
def sched_xor_B : List MicroOp := [.aluR .xor .b]

/-- XOR B (A8), R206. -/
def exec_xor_B (s : State) : Result := .next (runSchedule sched_xor_B s)

/-- XOR C (A9), R206. -/
def sched_xor_C : List MicroOp := [.aluR .xor .c]

/-- XOR C (A9), R206. -/
def exec_xor_C (s : State) : Result := .next (runSchedule sched_xor_C s)

/-- XOR D (AA), R206. -/
def sched_xor_D : List MicroOp := [.aluR .xor .d]

/-- XOR D (AA), R206. -/
def exec_xor_D (s : State) : Result := .next (runSchedule sched_xor_D s)

/-- XOR E (AB), R206. -/
def sched_xor_E : List MicroOp := [.aluR .xor .e]

/-- XOR E (AB), R206. -/
def exec_xor_E (s : State) : Result := .next (runSchedule sched_xor_E s)

/-- XOR H (AC), R206. -/
def sched_xor_H : List MicroOp := [.aluR .xor .h]

/-- XOR H (AC), R206. -/
def exec_xor_H (s : State) : Result := .next (runSchedule sched_xor_H s)

/-- XOR L (AD), R206. -/
def sched_xor_L : List MicroOp := [.aluR .xor .l]

/-- XOR L (AD), R206. -/
def exec_xor_L (s : State) : Result := .next (runSchedule sched_xor_L s)

/-- XOR (HL) (AE), R206. -/
def sched_xor_atHL : List MicroOp := [.idle, .aluHl .xor]

/-- XOR (HL) (AE), R206. -/
def exec_xor_atHL (s : State) : Result := .next (runSchedule sched_xor_atHL s)

/-- XOR A (AF), R206. -/
def sched_xor_A : List MicroOp := [.aluR .xor .a]

/-- XOR A (AF), R206. -/
def exec_xor_A (s : State) : Result := .next (runSchedule sched_xor_A s)

/-- OR B (B0), R207. -/
def sched_or_B : List MicroOp := [.aluR .or .b]

/-- OR B (B0), R207. -/
def exec_or_B (s : State) : Result := .next (runSchedule sched_or_B s)

/-- OR C (B1), R207. -/
def sched_or_C : List MicroOp := [.aluR .or .c]

/-- OR C (B1), R207. -/
def exec_or_C (s : State) : Result := .next (runSchedule sched_or_C s)

/-- OR D (B2), R207. -/
def sched_or_D : List MicroOp := [.aluR .or .d]

/-- OR D (B2), R207. -/
def exec_or_D (s : State) : Result := .next (runSchedule sched_or_D s)

/-- OR E (B3), R207. -/
def sched_or_E : List MicroOp := [.aluR .or .e]

/-- OR E (B3), R207. -/
def exec_or_E (s : State) : Result := .next (runSchedule sched_or_E s)

/-- OR H (B4), R207. -/
def sched_or_H : List MicroOp := [.aluR .or .h]

/-- OR H (B4), R207. -/
def exec_or_H (s : State) : Result := .next (runSchedule sched_or_H s)

/-- OR L (B5), R207. -/
def sched_or_L : List MicroOp := [.aluR .or .l]

/-- OR L (B5), R207. -/
def exec_or_L (s : State) : Result := .next (runSchedule sched_or_L s)

/-- OR (HL) (B6), R207. -/
def sched_or_atHL : List MicroOp := [.idle, .aluHl .or]

/-- OR (HL) (B6), R207. -/
def exec_or_atHL (s : State) : Result := .next (runSchedule sched_or_atHL s)

/-- OR A (B7), R207. -/
def sched_or_A : List MicroOp := [.aluR .or .a]

/-- OR A (B7), R207. -/
def exec_or_A (s : State) : Result := .next (runSchedule sched_or_A s)

/-- CP B (B8), R208. -/
def sched_cp_B : List MicroOp := [.aluR .cp .b]

/-- CP B (B8), R208. -/
def exec_cp_B (s : State) : Result := .next (runSchedule sched_cp_B s)

/-- CP C (B9), R208. -/
def sched_cp_C : List MicroOp := [.aluR .cp .c]

/-- CP C (B9), R208. -/
def exec_cp_C (s : State) : Result := .next (runSchedule sched_cp_C s)

/-- CP D (BA), R208. -/
def sched_cp_D : List MicroOp := [.aluR .cp .d]

/-- CP D (BA), R208. -/
def exec_cp_D (s : State) : Result := .next (runSchedule sched_cp_D s)

/-- CP E (BB), R208. -/
def sched_cp_E : List MicroOp := [.aluR .cp .e]

/-- CP E (BB), R208. -/
def exec_cp_E (s : State) : Result := .next (runSchedule sched_cp_E s)

/-- CP H (BC), R208. -/
def sched_cp_H : List MicroOp := [.aluR .cp .h]

/-- CP H (BC), R208. -/
def exec_cp_H (s : State) : Result := .next (runSchedule sched_cp_H s)

/-- CP L (BD), R208. -/
def sched_cp_L : List MicroOp := [.aluR .cp .l]

/-- CP L (BD), R208. -/
def exec_cp_L (s : State) : Result := .next (runSchedule sched_cp_L s)

/-- CP (HL) (BE), R208. -/
def sched_cp_atHL : List MicroOp := [.idle, .aluHl .cp]

/-- CP (HL) (BE), R208. -/
def exec_cp_atHL (s : State) : Result := .next (runSchedule sched_cp_atHL s)

/-- CP A (BF), R208. -/
def sched_cp_A : List MicroOp := [.aluR .cp .a]

/-- CP A (BF), R208. -/
def exec_cp_A (s : State) : Result := .next (runSchedule sched_cp_A s)

/-- ADD A,n (C6), R201. -/
def sched_add_A_n (n : Byte) : List MicroOp := [.aluN .add n]

/-- ADD A,n (C6), R201. -/
def exec_add_A_n (n : Byte) (s : State) : Result := .next (runSchedule (sched_add_A_n n) s)

/-- ADC A,n (CE), R202. -/
def sched_adc_A_n (n : Byte) : List MicroOp := [.aluN .adc n]

/-- ADC A,n (CE), R202. -/
def exec_adc_A_n (n : Byte) (s : State) : Result := .next (runSchedule (sched_adc_A_n n) s)

/-- SUB n (D6), R203. -/
def sched_sub_n (n : Byte) : List MicroOp := [.aluN .sub n]

/-- SUB n (D6), R203. -/
def exec_sub_n (n : Byte) (s : State) : Result := .next (runSchedule (sched_sub_n n) s)

/-- SBC A,n (DE), R204. -/
def sched_sbc_A_n (n : Byte) : List MicroOp := [.aluN .sbc n]

/-- SBC A,n (DE), R204. -/
def exec_sbc_A_n (n : Byte) (s : State) : Result := .next (runSchedule (sched_sbc_A_n n) s)

/-- AND n (E6), R205. -/
def sched_and_n (n : Byte) : List MicroOp := [.aluN .and n]

/-- AND n (E6), R205. -/
def exec_and_n (n : Byte) (s : State) : Result := .next (runSchedule (sched_and_n n) s)

/-- XOR n (EE), R206. -/
def sched_xor_n (n : Byte) : List MicroOp := [.aluN .xor n]

/-- XOR n (EE), R206. -/
def exec_xor_n (n : Byte) (s : State) : Result := .next (runSchedule (sched_xor_n n) s)

/-- OR n (F6), R207. -/
def sched_or_n (n : Byte) : List MicroOp := [.aluN .or n]

/-- OR n (F6), R207. -/
def exec_or_n (n : Byte) (s : State) : Result := .next (runSchedule (sched_or_n n) s)

/-- CP n (FE), R208. -/
def sched_cp_n (n : Byte) : List MicroOp := [.aluN .cp n]

/-- CP n (FE), R208. -/
def exec_cp_n (n : Byte) (s : State) : Result := .next (runSchedule (sched_cp_n n) s)

end Sys2Proof.Machine
end

