-- ==== Sys2Proof/Machine/Control.lean ====
section
/-! DEFINITION. The meanings of control transfer (46_control.md).
Each instruction has its schedule, the work of its M-cycles from the one of its last
fetch on, and its meaning, which runs the schedule to its end with the peripherals' part of a system step between every two
M-cycles. The system step of the last M-cycle is ended by the step (Machine/Sequencer.lean). -/
namespace Sys2Proof.Machine

/-- JR e (18), R273. -/
def sched_jr_e (e : Byte) : List MicroOp := [.idle, .jumpRel e]

/-- JR e (18), R273. -/
def exec_jr_e (e : Byte) (s : State) : Result := .next (runSchedule (sched_jr_e e) s)

/-- JR NZ,e (20), R274. -/
def sched_jr_NZ_e (e : Byte) : List MicroOp := [.test .nz, .jumpRel e]

/-- JR NZ,e (20), R274. -/
def exec_jr_NZ_e (e : Byte) (s : State) : Result := .next (runSchedule (sched_jr_NZ_e e) s)

/-- JR Z,e (28), R274. -/
def sched_jr_Z_e (e : Byte) : List MicroOp := [.test .z, .jumpRel e]

/-- JR Z,e (28), R274. -/
def exec_jr_Z_e (e : Byte) (s : State) : Result := .next (runSchedule (sched_jr_Z_e e) s)

/-- JR NC,e (30), R274. -/
def sched_jr_NC_e (e : Byte) : List MicroOp := [.test .nc, .jumpRel e]

/-- JR NC,e (30), R274. -/
def exec_jr_NC_e (e : Byte) (s : State) : Result := .next (runSchedule (sched_jr_NC_e e) s)

/-- JR C,e (38), R274. -/
def sched_jr_C_e (e : Byte) : List MicroOp := [.test .c, .jumpRel e]

/-- JR C,e (38), R274. -/
def exec_jr_C_e (e : Byte) (s : State) : Result := .next (runSchedule (sched_jr_C_e e) s)

/-- RET NZ (C0), R278. -/
def sched_ret_NZ : List MicroOp := [.idle, .test .nz, .popLo, .popHi, .retJump]

/-- RET NZ (C0), R278. -/
def exec_ret_NZ (s : State) : Result := .next (runSchedule sched_ret_NZ s)

/-- JP NZ,nn (C2), R271. -/
def sched_jp_NZ_nn (nn : Word) : List MicroOp := [.test .nz, .jump nn]

/-- JP NZ,nn (C2), R271. -/
def exec_jp_NZ_nn (nn : Word) (s : State) : Result := .next (runSchedule (sched_jp_NZ_nn nn) s)

/-- JP nn (C3), R270. -/
def sched_jp_nn (nn : Word) : List MicroOp := [.idle, .jump nn]

/-- JP nn (C3), R270. -/
def exec_jp_nn (nn : Word) (s : State) : Result := .next (runSchedule (sched_jp_nn nn) s)

/-- CALL NZ,nn (C4), R276. -/
def sched_call_NZ_nn (nn : Word) : List MicroOp := [.test .nz, .idle, .pushPcHi, .pushPcLoJump nn]

/-- CALL NZ,nn (C4), R276. -/
def exec_call_NZ_nn (nn : Word) (s : State) : Result := .next (runSchedule (sched_call_NZ_nn nn) s)

/-- RST 0x00 (C7), R280. -/
def sched_rst_00 : List MicroOp := [.idle, .idle, .pushPcHi, .pushPcLoJump 0x0000]

/-- RST 0x00 (C7), R280. -/
def exec_rst_00 (s : State) : Result := .next (runSchedule sched_rst_00 s)

/-- RET Z (C8), R278. -/
def sched_ret_Z : List MicroOp := [.idle, .test .z, .popLo, .popHi, .retJump]

/-- RET Z (C8), R278. -/
def exec_ret_Z (s : State) : Result := .next (runSchedule sched_ret_Z s)

/-- RET (C9), R277. -/
def sched_ret : List MicroOp := [.idle, .popLo, .popHi, .retJump]

/-- RET (C9), R277. -/
def exec_ret (s : State) : Result := .next (runSchedule sched_ret s)

/-- JP Z,nn (CA), R271. -/
def sched_jp_Z_nn (nn : Word) : List MicroOp := [.test .z, .jump nn]

/-- JP Z,nn (CA), R271. -/
def exec_jp_Z_nn (nn : Word) (s : State) : Result := .next (runSchedule (sched_jp_Z_nn nn) s)

/-- CALL Z,nn (CC), R276. -/
def sched_call_Z_nn (nn : Word) : List MicroOp := [.test .z, .idle, .pushPcHi, .pushPcLoJump nn]

/-- CALL Z,nn (CC), R276. -/
def exec_call_Z_nn (nn : Word) (s : State) : Result := .next (runSchedule (sched_call_Z_nn nn) s)

/-- CALL nn (CD), R275. -/
def sched_call_nn (nn : Word) : List MicroOp := [.idle, .idle, .pushPcHi, .pushPcLoJump nn]

/-- CALL nn (CD), R275. -/
def exec_call_nn (nn : Word) (s : State) : Result := .next (runSchedule (sched_call_nn nn) s)

/-- RST 0x08 (CF), R280. -/
def sched_rst_08 : List MicroOp := [.idle, .idle, .pushPcHi, .pushPcLoJump 0x0008]

/-- RST 0x08 (CF), R280. -/
def exec_rst_08 (s : State) : Result := .next (runSchedule sched_rst_08 s)

/-- RET NC (D0), R278. -/
def sched_ret_NC : List MicroOp := [.idle, .test .nc, .popLo, .popHi, .retJump]

/-- RET NC (D0), R278. -/
def exec_ret_NC (s : State) : Result := .next (runSchedule sched_ret_NC s)

/-- JP NC,nn (D2), R271. -/
def sched_jp_NC_nn (nn : Word) : List MicroOp := [.test .nc, .jump nn]

/-- JP NC,nn (D2), R271. -/
def exec_jp_NC_nn (nn : Word) (s : State) : Result := .next (runSchedule (sched_jp_NC_nn nn) s)

/-- CALL NC,nn (D4), R276. -/
def sched_call_NC_nn (nn : Word) : List MicroOp := [.test .nc, .idle, .pushPcHi, .pushPcLoJump nn]

/-- CALL NC,nn (D4), R276. -/
def exec_call_NC_nn (nn : Word) (s : State) : Result := .next (runSchedule (sched_call_NC_nn nn) s)

/-- RST 0x10 (D7), R280. -/
def sched_rst_10 : List MicroOp := [.idle, .idle, .pushPcHi, .pushPcLoJump 0x0010]

/-- RST 0x10 (D7), R280. -/
def exec_rst_10 (s : State) : Result := .next (runSchedule sched_rst_10 s)

/-- RET C (D8), R278. -/
def sched_ret_C : List MicroOp := [.idle, .test .c, .popLo, .popHi, .retJump]

/-- RET C (D8), R278. -/
def exec_ret_C (s : State) : Result := .next (runSchedule sched_ret_C s)

/-- RETI (D9), R279. -/
def sched_reti : List MicroOp := [.idle, .popLo, .popHi, .retiJump]

/-- RETI (D9), R279. -/
def exec_reti (s : State) : Result := .next (runSchedule sched_reti s)

/-- JP C,nn (DA), R271. -/
def sched_jp_C_nn (nn : Word) : List MicroOp := [.test .c, .jump nn]

/-- JP C,nn (DA), R271. -/
def exec_jp_C_nn (nn : Word) (s : State) : Result := .next (runSchedule (sched_jp_C_nn nn) s)

/-- CALL C,nn (DC), R276. -/
def sched_call_C_nn (nn : Word) : List MicroOp := [.test .c, .idle, .pushPcHi, .pushPcLoJump nn]

/-- CALL C,nn (DC), R276. -/
def exec_call_C_nn (nn : Word) (s : State) : Result := .next (runSchedule (sched_call_C_nn nn) s)

/-- RST 0x18 (DF), R280. -/
def sched_rst_18 : List MicroOp := [.idle, .idle, .pushPcHi, .pushPcLoJump 0x0018]

/-- RST 0x18 (DF), R280. -/
def exec_rst_18 (s : State) : Result := .next (runSchedule sched_rst_18 s)

/-- RST 0x20 (E7), R280. -/
def sched_rst_20 : List MicroOp := [.idle, .idle, .pushPcHi, .pushPcLoJump 0x0020]

/-- RST 0x20 (E7), R280. -/
def exec_rst_20 (s : State) : Result := .next (runSchedule sched_rst_20 s)

/-- JP HL (E9), R272. -/
def sched_jp_HL : List MicroOp := [.jumpHl]

/-- JP HL (E9), R272. -/
def exec_jp_HL (s : State) : Result := .next (runSchedule sched_jp_HL s)

/-- RST 0x28 (EF), R280. -/
def sched_rst_28 : List MicroOp := [.idle, .idle, .pushPcHi, .pushPcLoJump 0x0028]

/-- RST 0x28 (EF), R280. -/
def exec_rst_28 (s : State) : Result := .next (runSchedule sched_rst_28 s)

/-- RST 0x30 (F7), R280. -/
def sched_rst_30 : List MicroOp := [.idle, .idle, .pushPcHi, .pushPcLoJump 0x0030]

/-- RST 0x30 (F7), R280. -/
def exec_rst_30 (s : State) : Result := .next (runSchedule sched_rst_30 s)

/-- RST 0x38 (FF), R280. -/
def sched_rst_38 : List MicroOp := [.idle, .idle, .pushPcHi, .pushPcLoJump 0x0038]

/-- RST 0x38 (FF), R280. -/
def exec_rst_38 (s : State) : Result := .next (runSchedule sched_rst_38 s)

end Sys2Proof.Machine
end

