-- ==== Sys2Proof/Machine/Engine.lean ====
section
/-! DEFINITION. The meanings of engine control (40_execution_engine.md section 2): NOP, STOP, HALT, DI, EI, the 0xCB prefix and the undefined opcodes.
Each instruction has its schedule, the work of its M-cycles from the one of its last
fetch on, and its meaning, which runs the schedule to its end with the peripherals' part of a system step between every two
M-cycles. The system step of the last M-cycle is ended by the step (Machine/Sequencer.lean). -/
namespace Sys2Proof.Machine

/-- An undefined opcode (R149): under `ILLEGAL_OPCODE_POLICY = NOP` one M-cycle and a diagnostic, under `REFUSE` no meaning. -/
def undefinedOpcode (op : Byte) (s : State) : Result :=
  match s.params.illegalOpcodes with
  | .nop => .next (runSchedule [.diagnose op] s)
  | .refuse => .refused (.undefinedOpcode op)

/-- The work of a CB instruction from its fields (R120, R140, R244): what the second M-cycle of PREFIX CB goes on with. -/
def cbSchedule (cbop : Byte) : List MicroOp :=
  let b := (fieldY cbop).toFin
  match fieldX cbop, regOfField (fieldZ cbop) with
  | 0, some r => [.cbR (cbOfField (fieldY cbop)) r]
  | 0, none => [.idle, .readHl, .cbHl (cbOfField (fieldY cbop))]
  | 1, some r => [.bitR b r]
  | 1, none => [.idle, .bitHl b]
  | 2, some r => [.resR b r]
  | 2, none => [.idle, .readHl, .resHl b]
  | 3, some r => [.setR b r]
  | 3, none => [.idle, .readHl, .setHl b]

/-- NOP (00), R144. -/
def sched_nop : List MicroOp := [.idle]

/-- NOP (00), R144. -/
def exec_nop (s : State) : Result := .next (runSchedule sched_nop s)

/-- STOP (10), R148. -/
def sched_stop : List MicroOp := [.stop]

/-- STOP (10), R148. -/
def exec_stop (s : State) : Result := .next (runSchedule sched_stop s)

/-- HALT (76), R147. -/
def sched_halt : List MicroOp := [.halt]

/-- HALT (76), R147. -/
def exec_halt (s : State) : Result := .next (runSchedule sched_halt s)

/-- PREFIX CB (0xCB), R140, on its own: the prefix has been fetched, M2 fetches the CB opcode and goes on as the CB table's
entry. It has no schedule until that byte is known. -/
def exec_cbPrefix (s : State) : Result :=
  let (cbop, s) := s.tick.fetchByte 0xCB
  .next (runSchedule (cbSchedule cbop) s)

/-- UNDEFINED 0xD3 (D3), R149. -/
def sched_undef_D3 : List MicroOp := [.diagnose 0xD3]

/-- UNDEFINED 0xD3 (D3), R149. -/
def exec_undef_D3 (s : State) : Result := undefinedOpcode 0xD3 s

/-- UNDEFINED 0xDB (DB), R149. -/
def sched_undef_DB : List MicroOp := [.diagnose 0xDB]

/-- UNDEFINED 0xDB (DB), R149. -/
def exec_undef_DB (s : State) : Result := undefinedOpcode 0xDB s

/-- UNDEFINED 0xDD (DD), R149. -/
def sched_undef_DD : List MicroOp := [.diagnose 0xDD]

/-- UNDEFINED 0xDD (DD), R149. -/
def exec_undef_DD (s : State) : Result := undefinedOpcode 0xDD s

/-- UNDEFINED 0xE3 (E3), R149. -/
def sched_undef_E3 : List MicroOp := [.diagnose 0xE3]

/-- UNDEFINED 0xE3 (E3), R149. -/
def exec_undef_E3 (s : State) : Result := undefinedOpcode 0xE3 s

/-- UNDEFINED 0xE4 (E4), R149. -/
def sched_undef_E4 : List MicroOp := [.diagnose 0xE4]

/-- UNDEFINED 0xE4 (E4), R149. -/
def exec_undef_E4 (s : State) : Result := undefinedOpcode 0xE4 s

/-- UNDEFINED 0xEB (EB), R149. -/
def sched_undef_EB : List MicroOp := [.diagnose 0xEB]

/-- UNDEFINED 0xEB (EB), R149. -/
def exec_undef_EB (s : State) : Result := undefinedOpcode 0xEB s

/-- UNDEFINED 0xEC (EC), R149. -/
def sched_undef_EC : List MicroOp := [.diagnose 0xEC]

/-- UNDEFINED 0xEC (EC), R149. -/
def exec_undef_EC (s : State) : Result := undefinedOpcode 0xEC s

/-- UNDEFINED 0xED (ED), R149. -/
def sched_undef_ED : List MicroOp := [.diagnose 0xED]

/-- UNDEFINED 0xED (ED), R149. -/
def exec_undef_ED (s : State) : Result := undefinedOpcode 0xED s

/-- DI (F3), R145. -/
def sched_di : List MicroOp := [.di]

/-- DI (F3), R145. -/
def exec_di (s : State) : Result := .next (runSchedule sched_di s)

/-- UNDEFINED 0xF4 (F4), R149. -/
def sched_undef_F4 : List MicroOp := [.diagnose 0xF4]

/-- UNDEFINED 0xF4 (F4), R149. -/
def exec_undef_F4 (s : State) : Result := undefinedOpcode 0xF4 s

/-- EI (FB), R146. -/
def sched_ei : List MicroOp := [.ei]

/-- EI (FB), R146. -/
def exec_ei (s : State) : Result := .next (runSchedule sched_ei s)

/-- UNDEFINED 0xFC (FC), R149. -/
def sched_undef_FC : List MicroOp := [.diagnose 0xFC]

/-- UNDEFINED 0xFC (FC), R149. -/
def exec_undef_FC (s : State) : Result := undefinedOpcode 0xFC s

/-- UNDEFINED 0xFD (FD), R149. -/
def sched_undef_FD : List MicroOp := [.diagnose 0xFD]

/-- UNDEFINED 0xFD (FD), R149. -/
def exec_undef_FD (s : State) : Result := undefinedOpcode 0xFD s

end Sys2Proof.Machine
end

