-- ==== Sys2Proof/Machine/Load16.lean ====
section
/-! DEFINITION. The meanings of 16-bit loads and stack transfers (42_load16.md).
Each instruction has its schedule, the work of its M-cycles from the one of its last
fetch on, and its meaning, which runs the schedule to its end with the peripherals' part of a system step between every two
M-cycles. The system step of the last M-cycle is ended by the step (Machine/Sequencer.lean). -/
namespace Sys2Proof.Machine

/-- LD BC,nn (01), R190. -/
def sched_ld_BC_nn (nn : Word) : List MicroOp := [.ldPair .bc nn]

/-- LD BC,nn (01), R190. -/
def exec_ld_BC_nn (nn : Word) (s : State) : Result := .next (runSchedule (sched_ld_BC_nn nn) s)

/-- LD (nn),SP (08), R191. -/
def sched_ld_atnn_SP (nn : Word) : List MicroOp := [.idle, .storeSpLo nn, .storeSpHi nn]

/-- LD (nn),SP (08), R191. -/
def exec_ld_atnn_SP (nn : Word) (s : State) : Result := .next (runSchedule (sched_ld_atnn_SP nn) s)

/-- LD DE,nn (11), R190. -/
def sched_ld_DE_nn (nn : Word) : List MicroOp := [.ldPair .de nn]

/-- LD DE,nn (11), R190. -/
def exec_ld_DE_nn (nn : Word) (s : State) : Result := .next (runSchedule (sched_ld_DE_nn nn) s)

/-- LD HL,nn (21), R190. -/
def sched_ld_HL_nn (nn : Word) : List MicroOp := [.ldPair .hl nn]

/-- LD HL,nn (21), R190. -/
def exec_ld_HL_nn (nn : Word) (s : State) : Result := .next (runSchedule (sched_ld_HL_nn nn) s)

/-- LD SP,nn (31), R190. -/
def sched_ld_SP_nn (nn : Word) : List MicroOp := [.ldPair .sp nn]

/-- LD SP,nn (31), R190. -/
def exec_ld_SP_nn (nn : Word) (s : State) : Result := .next (runSchedule (sched_ld_SP_nn nn) s)

/-- POP BC (C1), R194. -/
def sched_pop_BC : List MicroOp := [.idle, .popLo, .popPair .bc]

/-- POP BC (C1), R194. -/
def exec_pop_BC (s : State) : Result := .next (runSchedule sched_pop_BC s)

/-- PUSH BC (C5), R193. -/
def sched_push_BC : List MicroOp := [.idle, .idle, .pushHi .bc, .pushLo .bc]

/-- PUSH BC (C5), R193. -/
def exec_push_BC (s : State) : Result := .next (runSchedule sched_push_BC s)

/-- POP DE (D1), R194. -/
def sched_pop_DE : List MicroOp := [.idle, .popLo, .popPair .de]

/-- POP DE (D1), R194. -/
def exec_pop_DE (s : State) : Result := .next (runSchedule sched_pop_DE s)

/-- PUSH DE (D5), R193. -/
def sched_push_DE : List MicroOp := [.idle, .idle, .pushHi .de, .pushLo .de]

/-- PUSH DE (D5), R193. -/
def exec_push_DE (s : State) : Result := .next (runSchedule sched_push_DE s)

/-- POP HL (E1), R194. -/
def sched_pop_HL : List MicroOp := [.idle, .popLo, .popPair .hl]

/-- POP HL (E1), R194. -/
def exec_pop_HL (s : State) : Result := .next (runSchedule sched_pop_HL s)

/-- PUSH HL (E5), R193. -/
def sched_push_HL : List MicroOp := [.idle, .idle, .pushHi .hl, .pushLo .hl]

/-- PUSH HL (E5), R193. -/
def exec_push_HL (s : State) : Result := .next (runSchedule sched_push_HL s)

/-- POP AF (F1), R194. -/
def sched_pop_AF : List MicroOp := [.idle, .popLo, .popPair .af]

/-- POP AF (F1), R194. -/
def exec_pop_AF (s : State) : Result := .next (runSchedule sched_pop_AF s)

/-- PUSH AF (F5), R193. -/
def sched_push_AF : List MicroOp := [.idle, .idle, .pushHi .af, .pushLo .af]

/-- PUSH AF (F5), R193. -/
def exec_push_AF (s : State) : Result := .next (runSchedule sched_push_AF s)

/-- LD HL,SP+e (F8), R195. -/
def sched_ld_HL_SPe (e : Byte) : List MicroOp := [.idle, .ldHlSp e]

/-- LD HL,SP+e (F8), R195. -/
def exec_ld_HL_SPe (e : Byte) (s : State) : Result := .next (runSchedule (sched_ld_HL_SPe e) s)

/-- LD SP,HL (F9), R192. -/
def sched_ld_SP_HL : List MicroOp := [.idle, .ldSpHl]

/-- LD SP,HL (F9), R192. -/
def exec_ld_SP_HL (s : State) : Result := .next (runSchedule sched_ld_SP_HL s)

end Sys2Proof.Machine
end

