-- ==== Sys2Proof/Machine/Load8.lean ====
section
/-! DEFINITION. The meanings of 8-bit loads (41_load8.md). No load reads or writes a flag.
Each instruction has its schedule, the work of its M-cycles from the one of its last
fetch on, and its meaning, which runs the schedule to its end with the peripherals' part of a system step between every two
M-cycles. The system step of the last M-cycle is ended by the step (Machine/Sequencer.lean). -/
namespace Sys2Proof.Machine

/-- LD (BC),A (02), R167. -/
def sched_ld_atBC_A : List MicroOp := [.idle, .store .bc .a]

/-- LD (BC),A (02), R167. -/
def exec_ld_atBC_A (s : State) : Result := .next (runSchedule sched_ld_atBC_A s)

/-- LD B,n (06), R161. -/
def sched_ld_B_n (n : Byte) : List MicroOp := [.ldRN .b n]

/-- LD B,n (06), R161. -/
def exec_ld_B_n (n : Byte) (s : State) : Result := .next (runSchedule (sched_ld_B_n n) s)

/-- LD A,(BC) (0A), R165. -/
def sched_ld_A_atBC : List MicroOp := [.idle, .load .a .bc]

/-- LD A,(BC) (0A), R165. -/
def exec_ld_A_atBC (s : State) : Result := .next (runSchedule sched_ld_A_atBC s)

/-- LD C,n (0E), R161. -/
def sched_ld_C_n (n : Byte) : List MicroOp := [.ldRN .c n]

/-- LD C,n (0E), R161. -/
def exec_ld_C_n (n : Byte) (s : State) : Result := .next (runSchedule (sched_ld_C_n n) s)

/-- LD (DE),A (12), R168. -/
def sched_ld_atDE_A : List MicroOp := [.idle, .store .de .a]

/-- LD (DE),A (12), R168. -/
def exec_ld_atDE_A (s : State) : Result := .next (runSchedule sched_ld_atDE_A s)

/-- LD D,n (16), R161. -/
def sched_ld_D_n (n : Byte) : List MicroOp := [.ldRN .d n]

/-- LD D,n (16), R161. -/
def exec_ld_D_n (n : Byte) (s : State) : Result := .next (runSchedule (sched_ld_D_n n) s)

/-- LD A,(DE) (1A), R166. -/
def sched_ld_A_atDE : List MicroOp := [.idle, .load .a .de]

/-- LD A,(DE) (1A), R166. -/
def exec_ld_A_atDE (s : State) : Result := .next (runSchedule sched_ld_A_atDE s)

/-- LD E,n (1E), R161. -/
def sched_ld_E_n (n : Byte) : List MicroOp := [.ldRN .e n]

/-- LD E,n (1E), R161. -/
def exec_ld_E_n (n : Byte) (s : State) : Result := .next (runSchedule (sched_ld_E_n n) s)

/-- LD (HL+),A (22), R177. -/
def sched_ld_atHLinc_A : List MicroOp := [.idle, .storeHlInc]

/-- LD (HL+),A (22), R177. -/
def exec_ld_atHLinc_A (s : State) : Result := .next (runSchedule sched_ld_atHLinc_A s)

/-- LD H,n (26), R161. -/
def sched_ld_H_n (n : Byte) : List MicroOp := [.ldRN .h n]

/-- LD H,n (26), R161. -/
def exec_ld_H_n (n : Byte) (s : State) : Result := .next (runSchedule (sched_ld_H_n n) s)

/-- LD A,(HL+) (2A), R175. -/
def sched_ld_A_atHLinc : List MicroOp := [.idle, .loadHlInc]

/-- LD A,(HL+) (2A), R175. -/
def exec_ld_A_atHLinc (s : State) : Result := .next (runSchedule sched_ld_A_atHLinc s)

/-- LD L,n (2E), R161. -/
def sched_ld_L_n (n : Byte) : List MicroOp := [.ldRN .l n]

/-- LD L,n (2E), R161. -/
def exec_ld_L_n (n : Byte) (s : State) : Result := .next (runSchedule (sched_ld_L_n n) s)

/-- LD (HL-),A (32), R178. -/
def sched_ld_atHLdec_A : List MicroOp := [.idle, .storeHlDec]

/-- LD (HL-),A (32), R178. -/
def exec_ld_atHLdec_A (s : State) : Result := .next (runSchedule sched_ld_atHLdec_A s)

/-- LD (HL),n (36), R164. -/
def sched_ld_atHL_n (n : Byte) : List MicroOp := [.idle, .storeN .hl n]

/-- LD (HL),n (36), R164. -/
def exec_ld_atHL_n (n : Byte) (s : State) : Result := .next (runSchedule (sched_ld_atHL_n n) s)

/-- LD A,(HL-) (3A), R176. -/
def sched_ld_A_atHLdec : List MicroOp := [.idle, .loadHlDec]

/-- LD A,(HL-) (3A), R176. -/
def exec_ld_A_atHLdec (s : State) : Result := .next (runSchedule sched_ld_A_atHLdec s)

/-- LD A,n (3E), R161. -/
def sched_ld_A_n (n : Byte) : List MicroOp := [.ldRN .a n]

/-- LD A,n (3E), R161. -/
def exec_ld_A_n (n : Byte) (s : State) : Result := .next (runSchedule (sched_ld_A_n n) s)

/-- LD B,B (40), R160. -/
def sched_ld_B_B : List MicroOp := [.ldRR .b .b]

/-- LD B,B (40), R160. -/
def exec_ld_B_B (s : State) : Result := .next (runSchedule sched_ld_B_B s)

/-- LD B,C (41), R160. -/
def sched_ld_B_C : List MicroOp := [.ldRR .b .c]

/-- LD B,C (41), R160. -/
def exec_ld_B_C (s : State) : Result := .next (runSchedule sched_ld_B_C s)

/-- LD B,D (42), R160. -/
def sched_ld_B_D : List MicroOp := [.ldRR .b .d]

/-- LD B,D (42), R160. -/
def exec_ld_B_D (s : State) : Result := .next (runSchedule sched_ld_B_D s)

/-- LD B,E (43), R160. -/
def sched_ld_B_E : List MicroOp := [.ldRR .b .e]

/-- LD B,E (43), R160. -/
def exec_ld_B_E (s : State) : Result := .next (runSchedule sched_ld_B_E s)

/-- LD B,H (44), R160. -/
def sched_ld_B_H : List MicroOp := [.ldRR .b .h]

/-- LD B,H (44), R160. -/
def exec_ld_B_H (s : State) : Result := .next (runSchedule sched_ld_B_H s)

/-- LD B,L (45), R160. -/
def sched_ld_B_L : List MicroOp := [.ldRR .b .l]

/-- LD B,L (45), R160. -/
def exec_ld_B_L (s : State) : Result := .next (runSchedule sched_ld_B_L s)

/-- LD B,(HL) (46), R162. -/
def sched_ld_B_atHL : List MicroOp := [.idle, .load .b .hl]

/-- LD B,(HL) (46), R162. -/
def exec_ld_B_atHL (s : State) : Result := .next (runSchedule sched_ld_B_atHL s)

/-- LD B,A (47), R160. -/
def sched_ld_B_A : List MicroOp := [.ldRR .b .a]

/-- LD B,A (47), R160. -/
def exec_ld_B_A (s : State) : Result := .next (runSchedule sched_ld_B_A s)

/-- LD C,B (48), R160. -/
def sched_ld_C_B : List MicroOp := [.ldRR .c .b]

/-- LD C,B (48), R160. -/
def exec_ld_C_B (s : State) : Result := .next (runSchedule sched_ld_C_B s)

/-- LD C,C (49), R160. -/
def sched_ld_C_C : List MicroOp := [.ldRR .c .c]

/-- LD C,C (49), R160. -/
def exec_ld_C_C (s : State) : Result := .next (runSchedule sched_ld_C_C s)

/-- LD C,D (4A), R160. -/
def sched_ld_C_D : List MicroOp := [.ldRR .c .d]

/-- LD C,D (4A), R160. -/
def exec_ld_C_D (s : State) : Result := .next (runSchedule sched_ld_C_D s)

/-- LD C,E (4B), R160. -/
def sched_ld_C_E : List MicroOp := [.ldRR .c .e]

/-- LD C,E (4B), R160. -/
def exec_ld_C_E (s : State) : Result := .next (runSchedule sched_ld_C_E s)

/-- LD C,H (4C), R160. -/
def sched_ld_C_H : List MicroOp := [.ldRR .c .h]

/-- LD C,H (4C), R160. -/
def exec_ld_C_H (s : State) : Result := .next (runSchedule sched_ld_C_H s)

/-- LD C,L (4D), R160. -/
def sched_ld_C_L : List MicroOp := [.ldRR .c .l]

/-- LD C,L (4D), R160. -/
def exec_ld_C_L (s : State) : Result := .next (runSchedule sched_ld_C_L s)

/-- LD C,(HL) (4E), R162. -/
def sched_ld_C_atHL : List MicroOp := [.idle, .load .c .hl]

/-- LD C,(HL) (4E), R162. -/
def exec_ld_C_atHL (s : State) : Result := .next (runSchedule sched_ld_C_atHL s)

/-- LD C,A (4F), R160. -/
def sched_ld_C_A : List MicroOp := [.ldRR .c .a]

/-- LD C,A (4F), R160. -/
def exec_ld_C_A (s : State) : Result := .next (runSchedule sched_ld_C_A s)

/-- LD D,B (50), R160. -/
def sched_ld_D_B : List MicroOp := [.ldRR .d .b]

/-- LD D,B (50), R160. -/
def exec_ld_D_B (s : State) : Result := .next (runSchedule sched_ld_D_B s)

/-- LD D,C (51), R160. -/
def sched_ld_D_C : List MicroOp := [.ldRR .d .c]

/-- LD D,C (51), R160. -/
def exec_ld_D_C (s : State) : Result := .next (runSchedule sched_ld_D_C s)

/-- LD D,D (52), R160. -/
def sched_ld_D_D : List MicroOp := [.ldRR .d .d]

/-- LD D,D (52), R160. -/
def exec_ld_D_D (s : State) : Result := .next (runSchedule sched_ld_D_D s)

/-- LD D,E (53), R160. -/
def sched_ld_D_E : List MicroOp := [.ldRR .d .e]

/-- LD D,E (53), R160. -/
def exec_ld_D_E (s : State) : Result := .next (runSchedule sched_ld_D_E s)

/-- LD D,H (54), R160. -/
def sched_ld_D_H : List MicroOp := [.ldRR .d .h]

/-- LD D,H (54), R160. -/
def exec_ld_D_H (s : State) : Result := .next (runSchedule sched_ld_D_H s)

/-- LD D,L (55), R160. -/
def sched_ld_D_L : List MicroOp := [.ldRR .d .l]

/-- LD D,L (55), R160. -/
def exec_ld_D_L (s : State) : Result := .next (runSchedule sched_ld_D_L s)

/-- LD D,(HL) (56), R162. -/
def sched_ld_D_atHL : List MicroOp := [.idle, .load .d .hl]

/-- LD D,(HL) (56), R162. -/
def exec_ld_D_atHL (s : State) : Result := .next (runSchedule sched_ld_D_atHL s)

/-- LD D,A (57), R160. -/
def sched_ld_D_A : List MicroOp := [.ldRR .d .a]

/-- LD D,A (57), R160. -/
def exec_ld_D_A (s : State) : Result := .next (runSchedule sched_ld_D_A s)

/-- LD E,B (58), R160. -/
def sched_ld_E_B : List MicroOp := [.ldRR .e .b]

/-- LD E,B (58), R160. -/
def exec_ld_E_B (s : State) : Result := .next (runSchedule sched_ld_E_B s)

/-- LD E,C (59), R160. -/
def sched_ld_E_C : List MicroOp := [.ldRR .e .c]

/-- LD E,C (59), R160. -/
def exec_ld_E_C (s : State) : Result := .next (runSchedule sched_ld_E_C s)

/-- LD E,D (5A), R160. -/
def sched_ld_E_D : List MicroOp := [.ldRR .e .d]

/-- LD E,D (5A), R160. -/
def exec_ld_E_D (s : State) : Result := .next (runSchedule sched_ld_E_D s)

/-- LD E,E (5B), R160. -/
def sched_ld_E_E : List MicroOp := [.ldRR .e .e]

/-- LD E,E (5B), R160. -/
def exec_ld_E_E (s : State) : Result := .next (runSchedule sched_ld_E_E s)

/-- LD E,H (5C), R160. -/
def sched_ld_E_H : List MicroOp := [.ldRR .e .h]

/-- LD E,H (5C), R160. -/
def exec_ld_E_H (s : State) : Result := .next (runSchedule sched_ld_E_H s)

/-- LD E,L (5D), R160. -/
def sched_ld_E_L : List MicroOp := [.ldRR .e .l]

/-- LD E,L (5D), R160. -/
def exec_ld_E_L (s : State) : Result := .next (runSchedule sched_ld_E_L s)

/-- LD E,(HL) (5E), R162. -/
def sched_ld_E_atHL : List MicroOp := [.idle, .load .e .hl]

/-- LD E,(HL) (5E), R162. -/
def exec_ld_E_atHL (s : State) : Result := .next (runSchedule sched_ld_E_atHL s)

/-- LD E,A (5F), R160. -/
def sched_ld_E_A : List MicroOp := [.ldRR .e .a]

/-- LD E,A (5F), R160. -/
def exec_ld_E_A (s : State) : Result := .next (runSchedule sched_ld_E_A s)

/-- LD H,B (60), R160. -/
def sched_ld_H_B : List MicroOp := [.ldRR .h .b]

/-- LD H,B (60), R160. -/
def exec_ld_H_B (s : State) : Result := .next (runSchedule sched_ld_H_B s)

/-- LD H,C (61), R160. -/
def sched_ld_H_C : List MicroOp := [.ldRR .h .c]

/-- LD H,C (61), R160. -/
def exec_ld_H_C (s : State) : Result := .next (runSchedule sched_ld_H_C s)

/-- LD H,D (62), R160. -/
def sched_ld_H_D : List MicroOp := [.ldRR .h .d]

/-- LD H,D (62), R160. -/
def exec_ld_H_D (s : State) : Result := .next (runSchedule sched_ld_H_D s)

/-- LD H,E (63), R160. -/
def sched_ld_H_E : List MicroOp := [.ldRR .h .e]

/-- LD H,E (63), R160. -/
def exec_ld_H_E (s : State) : Result := .next (runSchedule sched_ld_H_E s)

/-- LD H,H (64), R160. -/
def sched_ld_H_H : List MicroOp := [.ldRR .h .h]

/-- LD H,H (64), R160. -/
def exec_ld_H_H (s : State) : Result := .next (runSchedule sched_ld_H_H s)

/-- LD H,L (65), R160. -/
def sched_ld_H_L : List MicroOp := [.ldRR .h .l]

/-- LD H,L (65), R160. -/
def exec_ld_H_L (s : State) : Result := .next (runSchedule sched_ld_H_L s)

/-- LD H,(HL) (66), R162. -/
def sched_ld_H_atHL : List MicroOp := [.idle, .load .h .hl]

/-- LD H,(HL) (66), R162. -/
def exec_ld_H_atHL (s : State) : Result := .next (runSchedule sched_ld_H_atHL s)

/-- LD H,A (67), R160. -/
def sched_ld_H_A : List MicroOp := [.ldRR .h .a]

/-- LD H,A (67), R160. -/
def exec_ld_H_A (s : State) : Result := .next (runSchedule sched_ld_H_A s)

/-- LD L,B (68), R160. -/
def sched_ld_L_B : List MicroOp := [.ldRR .l .b]

/-- LD L,B (68), R160. -/
def exec_ld_L_B (s : State) : Result := .next (runSchedule sched_ld_L_B s)

/-- LD L,C (69), R160. -/
def sched_ld_L_C : List MicroOp := [.ldRR .l .c]

/-- LD L,C (69), R160. -/
def exec_ld_L_C (s : State) : Result := .next (runSchedule sched_ld_L_C s)

/-- LD L,D (6A), R160. -/
def sched_ld_L_D : List MicroOp := [.ldRR .l .d]

/-- LD L,D (6A), R160. -/
def exec_ld_L_D (s : State) : Result := .next (runSchedule sched_ld_L_D s)

/-- LD L,E (6B), R160. -/
def sched_ld_L_E : List MicroOp := [.ldRR .l .e]

/-- LD L,E (6B), R160. -/
def exec_ld_L_E (s : State) : Result := .next (runSchedule sched_ld_L_E s)

/-- LD L,H (6C), R160. -/
def sched_ld_L_H : List MicroOp := [.ldRR .l .h]

/-- LD L,H (6C), R160. -/
def exec_ld_L_H (s : State) : Result := .next (runSchedule sched_ld_L_H s)

/-- LD L,L (6D), R160. -/
def sched_ld_L_L : List MicroOp := [.ldRR .l .l]

/-- LD L,L (6D), R160. -/
def exec_ld_L_L (s : State) : Result := .next (runSchedule sched_ld_L_L s)

/-- LD L,(HL) (6E), R162. -/
def sched_ld_L_atHL : List MicroOp := [.idle, .load .l .hl]

/-- LD L,(HL) (6E), R162. -/
def exec_ld_L_atHL (s : State) : Result := .next (runSchedule sched_ld_L_atHL s)

/-- LD L,A (6F), R160. -/
def sched_ld_L_A : List MicroOp := [.ldRR .l .a]

/-- LD L,A (6F), R160. -/
def exec_ld_L_A (s : State) : Result := .next (runSchedule sched_ld_L_A s)

/-- LD (HL),B (70), R163. -/
def sched_ld_atHL_B : List MicroOp := [.idle, .store .hl .b]

/-- LD (HL),B (70), R163. -/
def exec_ld_atHL_B (s : State) : Result := .next (runSchedule sched_ld_atHL_B s)

/-- LD (HL),C (71), R163. -/
def sched_ld_atHL_C : List MicroOp := [.idle, .store .hl .c]

/-- LD (HL),C (71), R163. -/
def exec_ld_atHL_C (s : State) : Result := .next (runSchedule sched_ld_atHL_C s)

/-- LD (HL),D (72), R163. -/
def sched_ld_atHL_D : List MicroOp := [.idle, .store .hl .d]

/-- LD (HL),D (72), R163. -/
def exec_ld_atHL_D (s : State) : Result := .next (runSchedule sched_ld_atHL_D s)

/-- LD (HL),E (73), R163. -/
def sched_ld_atHL_E : List MicroOp := [.idle, .store .hl .e]

/-- LD (HL),E (73), R163. -/
def exec_ld_atHL_E (s : State) : Result := .next (runSchedule sched_ld_atHL_E s)

/-- LD (HL),H (74), R163. -/
def sched_ld_atHL_H : List MicroOp := [.idle, .store .hl .h]

/-- LD (HL),H (74), R163. -/
def exec_ld_atHL_H (s : State) : Result := .next (runSchedule sched_ld_atHL_H s)

/-- LD (HL),L (75), R163. -/
def sched_ld_atHL_L : List MicroOp := [.idle, .store .hl .l]

/-- LD (HL),L (75), R163. -/
def exec_ld_atHL_L (s : State) : Result := .next (runSchedule sched_ld_atHL_L s)

/-- LD (HL),A (77), R163. -/
def sched_ld_atHL_A : List MicroOp := [.idle, .store .hl .a]

/-- LD (HL),A (77), R163. -/
def exec_ld_atHL_A (s : State) : Result := .next (runSchedule sched_ld_atHL_A s)

/-- LD A,B (78), R160. -/
def sched_ld_A_B : List MicroOp := [.ldRR .a .b]

/-- LD A,B (78), R160. -/
def exec_ld_A_B (s : State) : Result := .next (runSchedule sched_ld_A_B s)

/-- LD A,C (79), R160. -/
def sched_ld_A_C : List MicroOp := [.ldRR .a .c]

/-- LD A,C (79), R160. -/
def exec_ld_A_C (s : State) : Result := .next (runSchedule sched_ld_A_C s)

/-- LD A,D (7A), R160. -/
def sched_ld_A_D : List MicroOp := [.ldRR .a .d]

/-- LD A,D (7A), R160. -/
def exec_ld_A_D (s : State) : Result := .next (runSchedule sched_ld_A_D s)

/-- LD A,E (7B), R160. -/
def sched_ld_A_E : List MicroOp := [.ldRR .a .e]

/-- LD A,E (7B), R160. -/
def exec_ld_A_E (s : State) : Result := .next (runSchedule sched_ld_A_E s)

/-- LD A,H (7C), R160. -/
def sched_ld_A_H : List MicroOp := [.ldRR .a .h]

/-- LD A,H (7C), R160. -/
def exec_ld_A_H (s : State) : Result := .next (runSchedule sched_ld_A_H s)

/-- LD A,L (7D), R160. -/
def sched_ld_A_L : List MicroOp := [.ldRR .a .l]

/-- LD A,L (7D), R160. -/
def exec_ld_A_L (s : State) : Result := .next (runSchedule sched_ld_A_L s)

/-- LD A,(HL) (7E), R162. -/
def sched_ld_A_atHL : List MicroOp := [.idle, .load .a .hl]

/-- LD A,(HL) (7E), R162. -/
def exec_ld_A_atHL (s : State) : Result := .next (runSchedule sched_ld_A_atHL s)

/-- LD A,A (7F), R160. -/
def sched_ld_A_A : List MicroOp := [.ldRR .a .a]

/-- LD A,A (7F), R160. -/
def exec_ld_A_A (s : State) : Result := .next (runSchedule sched_ld_A_A s)

/-- LDH (n),A (E0), R172. -/
def sched_ldh_atn_A (n : Byte) : List MicroOp := [.idle, .store (.high n) .a]

/-- LDH (n),A (E0), R172. -/
def exec_ldh_atn_A (n : Byte) (s : State) : Result := .next (runSchedule (sched_ldh_atn_A n) s)

/-- LD (C),A (E2), R174. -/
def sched_ld_atC_A : List MicroOp := [.idle, .store .highC .a]

/-- LD (C),A (E2), R174. -/
def exec_ld_atC_A (s : State) : Result := .next (runSchedule sched_ld_atC_A s)

/-- LD (nn),A (EA), R170. -/
def sched_ld_atnn_A (nn : Word) : List MicroOp := [.idle, .store (.abs nn) .a]

/-- LD (nn),A (EA), R170. -/
def exec_ld_atnn_A (nn : Word) (s : State) : Result := .next (runSchedule (sched_ld_atnn_A nn) s)

/-- LDH A,(n) (F0), R171. -/
def sched_ldh_A_atn (n : Byte) : List MicroOp := [.idle, .load .a (.high n)]

/-- LDH A,(n) (F0), R171. -/
def exec_ldh_A_atn (n : Byte) (s : State) : Result := .next (runSchedule (sched_ldh_A_atn n) s)

/-- LD A,(C) (F2), R173. -/
def sched_ld_A_atC : List MicroOp := [.idle, .load .a .highC]

/-- LD A,(C) (F2), R173. -/
def exec_ld_A_atC (s : State) : Result := .next (runSchedule sched_ld_A_atC s)

/-- LD A,(nn) (FA), R169. -/
def sched_ld_A_atnn (nn : Word) : List MicroOp := [.idle, .load .a (.abs nn)]

/-- LD A,(nn) (FA), R169. -/
def exec_ld_A_atnn (nn : Word) (s : State) : Result := .next (runSchedule (sched_ld_A_atnn nn) s)

end Sys2Proof.Machine
end

