-- ==== Sys2Proof/Machine/RotateBit.lean ====
section
/-! DEFINITION. The meanings of rotates, shifts, SWAP and bit operations (45_rotate_shift_bit.md).
Each instruction has its schedule, the work of its M-cycles from the one of its last
fetch on, and its meaning, which runs the schedule to its end with the peripherals' part of a system step between every two
M-cycles. The system step of the last M-cycle is ended by the step (Machine/Sequencer.lean). -/
namespace Sys2Proof.Machine

/-- RLCA (07), R240. -/
def sched_rlca : List MicroOp := [.accRot .rlca]

/-- RLCA (07), R240. -/
def exec_rlca (s : State) : Result := .next (runSchedule sched_rlca s)

/-- RRCA (0F), R241. -/
def sched_rrca : List MicroOp := [.accRot .rrca]

/-- RRCA (0F), R241. -/
def exec_rrca (s : State) : Result := .next (runSchedule sched_rrca s)

/-- RLA (17), R242. -/
def sched_rla : List MicroOp := [.accRot .rla]

/-- RLA (17), R242. -/
def exec_rla (s : State) : Result := .next (runSchedule sched_rla s)

/-- RRA (1F), R243. -/
def sched_rra : List MicroOp := [.accRot .rra]

/-- RRA (1F), R243. -/
def exec_rra (s : State) : Result := .next (runSchedule sched_rra s)

/-- RLC B (CB 00), R245. -/
def sched_rlc_B : List MicroOp := [.cbR .rlc .b]

/-- RLC B (CB 00), R245. -/
def exec_rlc_B (s : State) : Result := .next (runSchedule sched_rlc_B s)

/-- RLC C (CB 01), R245. -/
def sched_rlc_C : List MicroOp := [.cbR .rlc .c]

/-- RLC C (CB 01), R245. -/
def exec_rlc_C (s : State) : Result := .next (runSchedule sched_rlc_C s)

/-- RLC D (CB 02), R245. -/
def sched_rlc_D : List MicroOp := [.cbR .rlc .d]

/-- RLC D (CB 02), R245. -/
def exec_rlc_D (s : State) : Result := .next (runSchedule sched_rlc_D s)

/-- RLC E (CB 03), R245. -/
def sched_rlc_E : List MicroOp := [.cbR .rlc .e]

/-- RLC E (CB 03), R245. -/
def exec_rlc_E (s : State) : Result := .next (runSchedule sched_rlc_E s)

/-- RLC H (CB 04), R245. -/
def sched_rlc_H : List MicroOp := [.cbR .rlc .h]

/-- RLC H (CB 04), R245. -/
def exec_rlc_H (s : State) : Result := .next (runSchedule sched_rlc_H s)

/-- RLC L (CB 05), R245. -/
def sched_rlc_L : List MicroOp := [.cbR .rlc .l]

/-- RLC L (CB 05), R245. -/
def exec_rlc_L (s : State) : Result := .next (runSchedule sched_rlc_L s)

/-- RLC (HL) (CB 06), R245. -/
def sched_rlc_atHL : List MicroOp := [.idle, .readHl, .cbHl .rlc]

/-- RLC (HL) (CB 06), R245. -/
def exec_rlc_atHL (s : State) : Result := .next (runSchedule sched_rlc_atHL s)

/-- RLC A (CB 07), R245. -/
def sched_rlc_A : List MicroOp := [.cbR .rlc .a]

/-- RLC A (CB 07), R245. -/
def exec_rlc_A (s : State) : Result := .next (runSchedule sched_rlc_A s)

/-- RRC B (CB 08), R246. -/
def sched_rrc_B : List MicroOp := [.cbR .rrc .b]

/-- RRC B (CB 08), R246. -/
def exec_rrc_B (s : State) : Result := .next (runSchedule sched_rrc_B s)

/-- RRC C (CB 09), R246. -/
def sched_rrc_C : List MicroOp := [.cbR .rrc .c]

/-- RRC C (CB 09), R246. -/
def exec_rrc_C (s : State) : Result := .next (runSchedule sched_rrc_C s)

/-- RRC D (CB 0A), R246. -/
def sched_rrc_D : List MicroOp := [.cbR .rrc .d]

/-- RRC D (CB 0A), R246. -/
def exec_rrc_D (s : State) : Result := .next (runSchedule sched_rrc_D s)

/-- RRC E (CB 0B), R246. -/
def sched_rrc_E : List MicroOp := [.cbR .rrc .e]

/-- RRC E (CB 0B), R246. -/
def exec_rrc_E (s : State) : Result := .next (runSchedule sched_rrc_E s)

/-- RRC H (CB 0C), R246. -/
def sched_rrc_H : List MicroOp := [.cbR .rrc .h]

/-- RRC H (CB 0C), R246. -/
def exec_rrc_H (s : State) : Result := .next (runSchedule sched_rrc_H s)

/-- RRC L (CB 0D), R246. -/
def sched_rrc_L : List MicroOp := [.cbR .rrc .l]

/-- RRC L (CB 0D), R246. -/
def exec_rrc_L (s : State) : Result := .next (runSchedule sched_rrc_L s)

/-- RRC (HL) (CB 0E), R246. -/
def sched_rrc_atHL : List MicroOp := [.idle, .readHl, .cbHl .rrc]

/-- RRC (HL) (CB 0E), R246. -/
def exec_rrc_atHL (s : State) : Result := .next (runSchedule sched_rrc_atHL s)

/-- RRC A (CB 0F), R246. -/
def sched_rrc_A : List MicroOp := [.cbR .rrc .a]

/-- RRC A (CB 0F), R246. -/
def exec_rrc_A (s : State) : Result := .next (runSchedule sched_rrc_A s)

/-- RL B (CB 10), R247. -/
def sched_rl_B : List MicroOp := [.cbR .rl .b]

/-- RL B (CB 10), R247. -/
def exec_rl_B (s : State) : Result := .next (runSchedule sched_rl_B s)

/-- RL C (CB 11), R247. -/
def sched_rl_C : List MicroOp := [.cbR .rl .c]

/-- RL C (CB 11), R247. -/
def exec_rl_C (s : State) : Result := .next (runSchedule sched_rl_C s)

/-- RL D (CB 12), R247. -/
def sched_rl_D : List MicroOp := [.cbR .rl .d]

/-- RL D (CB 12), R247. -/
def exec_rl_D (s : State) : Result := .next (runSchedule sched_rl_D s)

/-- RL E (CB 13), R247. -/
def sched_rl_E : List MicroOp := [.cbR .rl .e]

/-- RL E (CB 13), R247. -/
def exec_rl_E (s : State) : Result := .next (runSchedule sched_rl_E s)

/-- RL H (CB 14), R247. -/
def sched_rl_H : List MicroOp := [.cbR .rl .h]

/-- RL H (CB 14), R247. -/
def exec_rl_H (s : State) : Result := .next (runSchedule sched_rl_H s)

/-- RL L (CB 15), R247. -/
def sched_rl_L : List MicroOp := [.cbR .rl .l]

/-- RL L (CB 15), R247. -/
def exec_rl_L (s : State) : Result := .next (runSchedule sched_rl_L s)

/-- RL (HL) (CB 16), R247. -/
def sched_rl_atHL : List MicroOp := [.idle, .readHl, .cbHl .rl]

/-- RL (HL) (CB 16), R247. -/
def exec_rl_atHL (s : State) : Result := .next (runSchedule sched_rl_atHL s)

/-- RL A (CB 17), R247. -/
def sched_rl_A : List MicroOp := [.cbR .rl .a]

/-- RL A (CB 17), R247. -/
def exec_rl_A (s : State) : Result := .next (runSchedule sched_rl_A s)

/-- RR B (CB 18), R248. -/
def sched_rr_B : List MicroOp := [.cbR .rr .b]

/-- RR B (CB 18), R248. -/
def exec_rr_B (s : State) : Result := .next (runSchedule sched_rr_B s)

/-- RR C (CB 19), R248. -/
def sched_rr_C : List MicroOp := [.cbR .rr .c]

/-- RR C (CB 19), R248. -/
def exec_rr_C (s : State) : Result := .next (runSchedule sched_rr_C s)

/-- RR D (CB 1A), R248. -/
def sched_rr_D : List MicroOp := [.cbR .rr .d]

/-- RR D (CB 1A), R248. -/
def exec_rr_D (s : State) : Result := .next (runSchedule sched_rr_D s)

/-- RR E (CB 1B), R248. -/
def sched_rr_E : List MicroOp := [.cbR .rr .e]

/-- RR E (CB 1B), R248. -/
def exec_rr_E (s : State) : Result := .next (runSchedule sched_rr_E s)

/-- RR H (CB 1C), R248. -/
def sched_rr_H : List MicroOp := [.cbR .rr .h]

/-- RR H (CB 1C), R248. -/
def exec_rr_H (s : State) : Result := .next (runSchedule sched_rr_H s)

/-- RR L (CB 1D), R248. -/
def sched_rr_L : List MicroOp := [.cbR .rr .l]

/-- RR L (CB 1D), R248. -/
def exec_rr_L (s : State) : Result := .next (runSchedule sched_rr_L s)

/-- RR (HL) (CB 1E), R248. -/
def sched_rr_atHL : List MicroOp := [.idle, .readHl, .cbHl .rr]

/-- RR (HL) (CB 1E), R248. -/
def exec_rr_atHL (s : State) : Result := .next (runSchedule sched_rr_atHL s)

/-- RR A (CB 1F), R248. -/
def sched_rr_A : List MicroOp := [.cbR .rr .a]

/-- RR A (CB 1F), R248. -/
def exec_rr_A (s : State) : Result := .next (runSchedule sched_rr_A s)

/-- SLA B (CB 20), R249. -/
def sched_sla_B : List MicroOp := [.cbR .sla .b]

/-- SLA B (CB 20), R249. -/
def exec_sla_B (s : State) : Result := .next (runSchedule sched_sla_B s)

/-- SLA C (CB 21), R249. -/
def sched_sla_C : List MicroOp := [.cbR .sla .c]

/-- SLA C (CB 21), R249. -/
def exec_sla_C (s : State) : Result := .next (runSchedule sched_sla_C s)

/-- SLA D (CB 22), R249. -/
def sched_sla_D : List MicroOp := [.cbR .sla .d]

/-- SLA D (CB 22), R249. -/
def exec_sla_D (s : State) : Result := .next (runSchedule sched_sla_D s)

/-- SLA E (CB 23), R249. -/
def sched_sla_E : List MicroOp := [.cbR .sla .e]

/-- SLA E (CB 23), R249. -/
def exec_sla_E (s : State) : Result := .next (runSchedule sched_sla_E s)

/-- SLA H (CB 24), R249. -/
def sched_sla_H : List MicroOp := [.cbR .sla .h]

/-- SLA H (CB 24), R249. -/
def exec_sla_H (s : State) : Result := .next (runSchedule sched_sla_H s)

/-- SLA L (CB 25), R249. -/
def sched_sla_L : List MicroOp := [.cbR .sla .l]

/-- SLA L (CB 25), R249. -/
def exec_sla_L (s : State) : Result := .next (runSchedule sched_sla_L s)

/-- SLA (HL) (CB 26), R249. -/
def sched_sla_atHL : List MicroOp := [.idle, .readHl, .cbHl .sla]

/-- SLA (HL) (CB 26), R249. -/
def exec_sla_atHL (s : State) : Result := .next (runSchedule sched_sla_atHL s)

/-- SLA A (CB 27), R249. -/
def sched_sla_A : List MicroOp := [.cbR .sla .a]

/-- SLA A (CB 27), R249. -/
def exec_sla_A (s : State) : Result := .next (runSchedule sched_sla_A s)

/-- SRA B (CB 28), R250. -/
def sched_sra_B : List MicroOp := [.cbR .sra .b]

/-- SRA B (CB 28), R250. -/
def exec_sra_B (s : State) : Result := .next (runSchedule sched_sra_B s)

/-- SRA C (CB 29), R250. -/
def sched_sra_C : List MicroOp := [.cbR .sra .c]

/-- SRA C (CB 29), R250. -/
def exec_sra_C (s : State) : Result := .next (runSchedule sched_sra_C s)

/-- SRA D (CB 2A), R250. -/
def sched_sra_D : List MicroOp := [.cbR .sra .d]

/-- SRA D (CB 2A), R250. -/
def exec_sra_D (s : State) : Result := .next (runSchedule sched_sra_D s)

/-- SRA E (CB 2B), R250. -/
def sched_sra_E : List MicroOp := [.cbR .sra .e]

/-- SRA E (CB 2B), R250. -/
def exec_sra_E (s : State) : Result := .next (runSchedule sched_sra_E s)

/-- SRA H (CB 2C), R250. -/
def sched_sra_H : List MicroOp := [.cbR .sra .h]

/-- SRA H (CB 2C), R250. -/
def exec_sra_H (s : State) : Result := .next (runSchedule sched_sra_H s)

/-- SRA L (CB 2D), R250. -/
def sched_sra_L : List MicroOp := [.cbR .sra .l]

/-- SRA L (CB 2D), R250. -/
def exec_sra_L (s : State) : Result := .next (runSchedule sched_sra_L s)

/-- SRA (HL) (CB 2E), R250. -/
def sched_sra_atHL : List MicroOp := [.idle, .readHl, .cbHl .sra]

/-- SRA (HL) (CB 2E), R250. -/
def exec_sra_atHL (s : State) : Result := .next (runSchedule sched_sra_atHL s)

/-- SRA A (CB 2F), R250. -/
def sched_sra_A : List MicroOp := [.cbR .sra .a]

/-- SRA A (CB 2F), R250. -/
def exec_sra_A (s : State) : Result := .next (runSchedule sched_sra_A s)

/-- SWAP B (CB 30), R251. -/
def sched_swap_B : List MicroOp := [.cbR .swap .b]

/-- SWAP B (CB 30), R251. -/
def exec_swap_B (s : State) : Result := .next (runSchedule sched_swap_B s)

/-- SWAP C (CB 31), R251. -/
def sched_swap_C : List MicroOp := [.cbR .swap .c]

/-- SWAP C (CB 31), R251. -/
def exec_swap_C (s : State) : Result := .next (runSchedule sched_swap_C s)

/-- SWAP D (CB 32), R251. -/
def sched_swap_D : List MicroOp := [.cbR .swap .d]

/-- SWAP D (CB 32), R251. -/
def exec_swap_D (s : State) : Result := .next (runSchedule sched_swap_D s)

/-- SWAP E (CB 33), R251. -/
def sched_swap_E : List MicroOp := [.cbR .swap .e]

/-- SWAP E (CB 33), R251. -/
def exec_swap_E (s : State) : Result := .next (runSchedule sched_swap_E s)

/-- SWAP H (CB 34), R251. -/
def sched_swap_H : List MicroOp := [.cbR .swap .h]

/-- SWAP H (CB 34), R251. -/
def exec_swap_H (s : State) : Result := .next (runSchedule sched_swap_H s)

/-- SWAP L (CB 35), R251. -/
def sched_swap_L : List MicroOp := [.cbR .swap .l]

/-- SWAP L (CB 35), R251. -/
def exec_swap_L (s : State) : Result := .next (runSchedule sched_swap_L s)

/-- SWAP (HL) (CB 36), R251. -/
def sched_swap_atHL : List MicroOp := [.idle, .readHl, .cbHl .swap]

/-- SWAP (HL) (CB 36), R251. -/
def exec_swap_atHL (s : State) : Result := .next (runSchedule sched_swap_atHL s)

/-- SWAP A (CB 37), R251. -/
def sched_swap_A : List MicroOp := [.cbR .swap .a]

/-- SWAP A (CB 37), R251. -/
def exec_swap_A (s : State) : Result := .next (runSchedule sched_swap_A s)

/-- SRL B (CB 38), R252. -/
def sched_srl_B : List MicroOp := [.cbR .srl .b]

/-- SRL B (CB 38), R252. -/
def exec_srl_B (s : State) : Result := .next (runSchedule sched_srl_B s)

/-- SRL C (CB 39), R252. -/
def sched_srl_C : List MicroOp := [.cbR .srl .c]

/-- SRL C (CB 39), R252. -/
def exec_srl_C (s : State) : Result := .next (runSchedule sched_srl_C s)

/-- SRL D (CB 3A), R252. -/
def sched_srl_D : List MicroOp := [.cbR .srl .d]

/-- SRL D (CB 3A), R252. -/
def exec_srl_D (s : State) : Result := .next (runSchedule sched_srl_D s)

/-- SRL E (CB 3B), R252. -/
def sched_srl_E : List MicroOp := [.cbR .srl .e]

/-- SRL E (CB 3B), R252. -/
def exec_srl_E (s : State) : Result := .next (runSchedule sched_srl_E s)

/-- SRL H (CB 3C), R252. -/
def sched_srl_H : List MicroOp := [.cbR .srl .h]

/-- SRL H (CB 3C), R252. -/
def exec_srl_H (s : State) : Result := .next (runSchedule sched_srl_H s)

/-- SRL L (CB 3D), R252. -/
def sched_srl_L : List MicroOp := [.cbR .srl .l]

/-- SRL L (CB 3D), R252. -/
def exec_srl_L (s : State) : Result := .next (runSchedule sched_srl_L s)

/-- SRL (HL) (CB 3E), R252. -/
def sched_srl_atHL : List MicroOp := [.idle, .readHl, .cbHl .srl]

/-- SRL (HL) (CB 3E), R252. -/
def exec_srl_atHL (s : State) : Result := .next (runSchedule sched_srl_atHL s)

/-- SRL A (CB 3F), R252. -/
def sched_srl_A : List MicroOp := [.cbR .srl .a]

/-- SRL A (CB 3F), R252. -/
def exec_srl_A (s : State) : Result := .next (runSchedule sched_srl_A s)

/-- BIT 0,B (CB 40), R253. -/
def sched_bit_0_B : List MicroOp := [.bitR 0 .b]

/-- BIT 0,B (CB 40), R253. -/
def exec_bit_0_B (s : State) : Result := .next (runSchedule sched_bit_0_B s)

/-- BIT 0,C (CB 41), R253. -/
def sched_bit_0_C : List MicroOp := [.bitR 0 .c]

/-- BIT 0,C (CB 41), R253. -/
def exec_bit_0_C (s : State) : Result := .next (runSchedule sched_bit_0_C s)

/-- BIT 0,D (CB 42), R253. -/
def sched_bit_0_D : List MicroOp := [.bitR 0 .d]

/-- BIT 0,D (CB 42), R253. -/
def exec_bit_0_D (s : State) : Result := .next (runSchedule sched_bit_0_D s)

/-- BIT 0,E (CB 43), R253. -/
def sched_bit_0_E : List MicroOp := [.bitR 0 .e]

/-- BIT 0,E (CB 43), R253. -/
def exec_bit_0_E (s : State) : Result := .next (runSchedule sched_bit_0_E s)

/-- BIT 0,H (CB 44), R253. -/
def sched_bit_0_H : List MicroOp := [.bitR 0 .h]

/-- BIT 0,H (CB 44), R253. -/
def exec_bit_0_H (s : State) : Result := .next (runSchedule sched_bit_0_H s)

/-- BIT 0,L (CB 45), R253. -/
def sched_bit_0_L : List MicroOp := [.bitR 0 .l]

/-- BIT 0,L (CB 45), R253. -/
def exec_bit_0_L (s : State) : Result := .next (runSchedule sched_bit_0_L s)

/-- BIT 0,(HL) (CB 46), R253. -/
def sched_bit_0_atHL : List MicroOp := [.idle, .bitHl 0]

/-- BIT 0,(HL) (CB 46), R253. -/
def exec_bit_0_atHL (s : State) : Result := .next (runSchedule sched_bit_0_atHL s)

/-- BIT 0,A (CB 47), R253. -/
def sched_bit_0_A : List MicroOp := [.bitR 0 .a]

/-- BIT 0,A (CB 47), R253. -/
def exec_bit_0_A (s : State) : Result := .next (runSchedule sched_bit_0_A s)

/-- BIT 1,B (CB 48), R253. -/
def sched_bit_1_B : List MicroOp := [.bitR 1 .b]

/-- BIT 1,B (CB 48), R253. -/
def exec_bit_1_B (s : State) : Result := .next (runSchedule sched_bit_1_B s)

/-- BIT 1,C (CB 49), R253. -/
def sched_bit_1_C : List MicroOp := [.bitR 1 .c]

/-- BIT 1,C (CB 49), R253. -/
def exec_bit_1_C (s : State) : Result := .next (runSchedule sched_bit_1_C s)

/-- BIT 1,D (CB 4A), R253. -/
def sched_bit_1_D : List MicroOp := [.bitR 1 .d]

/-- BIT 1,D (CB 4A), R253. -/
def exec_bit_1_D (s : State) : Result := .next (runSchedule sched_bit_1_D s)

/-- BIT 1,E (CB 4B), R253. -/
def sched_bit_1_E : List MicroOp := [.bitR 1 .e]

/-- BIT 1,E (CB 4B), R253. -/
def exec_bit_1_E (s : State) : Result := .next (runSchedule sched_bit_1_E s)

/-- BIT 1,H (CB 4C), R253. -/
def sched_bit_1_H : List MicroOp := [.bitR 1 .h]

/-- BIT 1,H (CB 4C), R253. -/
def exec_bit_1_H (s : State) : Result := .next (runSchedule sched_bit_1_H s)

/-- BIT 1,L (CB 4D), R253. -/
def sched_bit_1_L : List MicroOp := [.bitR 1 .l]

/-- BIT 1,L (CB 4D), R253. -/
def exec_bit_1_L (s : State) : Result := .next (runSchedule sched_bit_1_L s)

/-- BIT 1,(HL) (CB 4E), R253. -/
def sched_bit_1_atHL : List MicroOp := [.idle, .bitHl 1]

/-- BIT 1,(HL) (CB 4E), R253. -/
def exec_bit_1_atHL (s : State) : Result := .next (runSchedule sched_bit_1_atHL s)

/-- BIT 1,A (CB 4F), R253. -/
def sched_bit_1_A : List MicroOp := [.bitR 1 .a]

/-- BIT 1,A (CB 4F), R253. -/
def exec_bit_1_A (s : State) : Result := .next (runSchedule sched_bit_1_A s)

/-- BIT 2,B (CB 50), R253. -/
def sched_bit_2_B : List MicroOp := [.bitR 2 .b]

/-- BIT 2,B (CB 50), R253. -/
def exec_bit_2_B (s : State) : Result := .next (runSchedule sched_bit_2_B s)

/-- BIT 2,C (CB 51), R253. -/
def sched_bit_2_C : List MicroOp := [.bitR 2 .c]

/-- BIT 2,C (CB 51), R253. -/
def exec_bit_2_C (s : State) : Result := .next (runSchedule sched_bit_2_C s)

/-- BIT 2,D (CB 52), R253. -/
def sched_bit_2_D : List MicroOp := [.bitR 2 .d]

/-- BIT 2,D (CB 52), R253. -/
def exec_bit_2_D (s : State) : Result := .next (runSchedule sched_bit_2_D s)

/-- BIT 2,E (CB 53), R253. -/
def sched_bit_2_E : List MicroOp := [.bitR 2 .e]

/-- BIT 2,E (CB 53), R253. -/
def exec_bit_2_E (s : State) : Result := .next (runSchedule sched_bit_2_E s)

/-- BIT 2,H (CB 54), R253. -/
def sched_bit_2_H : List MicroOp := [.bitR 2 .h]

/-- BIT 2,H (CB 54), R253. -/
def exec_bit_2_H (s : State) : Result := .next (runSchedule sched_bit_2_H s)

/-- BIT 2,L (CB 55), R253. -/
def sched_bit_2_L : List MicroOp := [.bitR 2 .l]

/-- BIT 2,L (CB 55), R253. -/
def exec_bit_2_L (s : State) : Result := .next (runSchedule sched_bit_2_L s)

/-- BIT 2,(HL) (CB 56), R253. -/
def sched_bit_2_atHL : List MicroOp := [.idle, .bitHl 2]

/-- BIT 2,(HL) (CB 56), R253. -/
def exec_bit_2_atHL (s : State) : Result := .next (runSchedule sched_bit_2_atHL s)

/-- BIT 2,A (CB 57), R253. -/
def sched_bit_2_A : List MicroOp := [.bitR 2 .a]

/-- BIT 2,A (CB 57), R253. -/
def exec_bit_2_A (s : State) : Result := .next (runSchedule sched_bit_2_A s)

/-- BIT 3,B (CB 58), R253. -/
def sched_bit_3_B : List MicroOp := [.bitR 3 .b]

/-- BIT 3,B (CB 58), R253. -/
def exec_bit_3_B (s : State) : Result := .next (runSchedule sched_bit_3_B s)

/-- BIT 3,C (CB 59), R253. -/
def sched_bit_3_C : List MicroOp := [.bitR 3 .c]

/-- BIT 3,C (CB 59), R253. -/
def exec_bit_3_C (s : State) : Result := .next (runSchedule sched_bit_3_C s)

/-- BIT 3,D (CB 5A), R253. -/
def sched_bit_3_D : List MicroOp := [.bitR 3 .d]

/-- BIT 3,D (CB 5A), R253. -/
def exec_bit_3_D (s : State) : Result := .next (runSchedule sched_bit_3_D s)

/-- BIT 3,E (CB 5B), R253. -/
def sched_bit_3_E : List MicroOp := [.bitR 3 .e]

/-- BIT 3,E (CB 5B), R253. -/
def exec_bit_3_E (s : State) : Result := .next (runSchedule sched_bit_3_E s)

/-- BIT 3,H (CB 5C), R253. -/
def sched_bit_3_H : List MicroOp := [.bitR 3 .h]

/-- BIT 3,H (CB 5C), R253. -/
def exec_bit_3_H (s : State) : Result := .next (runSchedule sched_bit_3_H s)

/-- BIT 3,L (CB 5D), R253. -/
def sched_bit_3_L : List MicroOp := [.bitR 3 .l]

/-- BIT 3,L (CB 5D), R253. -/
def exec_bit_3_L (s : State) : Result := .next (runSchedule sched_bit_3_L s)

/-- BIT 3,(HL) (CB 5E), R253. -/
def sched_bit_3_atHL : List MicroOp := [.idle, .bitHl 3]

/-- BIT 3,(HL) (CB 5E), R253. -/
def exec_bit_3_atHL (s : State) : Result := .next (runSchedule sched_bit_3_atHL s)

/-- BIT 3,A (CB 5F), R253. -/
def sched_bit_3_A : List MicroOp := [.bitR 3 .a]

/-- BIT 3,A (CB 5F), R253. -/
def exec_bit_3_A (s : State) : Result := .next (runSchedule sched_bit_3_A s)

/-- BIT 4,B (CB 60), R253. -/
def sched_bit_4_B : List MicroOp := [.bitR 4 .b]

/-- BIT 4,B (CB 60), R253. -/
def exec_bit_4_B (s : State) : Result := .next (runSchedule sched_bit_4_B s)

/-- BIT 4,C (CB 61), R253. -/
def sched_bit_4_C : List MicroOp := [.bitR 4 .c]

/-- BIT 4,C (CB 61), R253. -/
def exec_bit_4_C (s : State) : Result := .next (runSchedule sched_bit_4_C s)

/-- BIT 4,D (CB 62), R253. -/
def sched_bit_4_D : List MicroOp := [.bitR 4 .d]

/-- BIT 4,D (CB 62), R253. -/
def exec_bit_4_D (s : State) : Result := .next (runSchedule sched_bit_4_D s)

/-- BIT 4,E (CB 63), R253. -/
def sched_bit_4_E : List MicroOp := [.bitR 4 .e]

/-- BIT 4,E (CB 63), R253. -/
def exec_bit_4_E (s : State) : Result := .next (runSchedule sched_bit_4_E s)

/-- BIT 4,H (CB 64), R253. -/
def sched_bit_4_H : List MicroOp := [.bitR 4 .h]

/-- BIT 4,H (CB 64), R253. -/
def exec_bit_4_H (s : State) : Result := .next (runSchedule sched_bit_4_H s)

/-- BIT 4,L (CB 65), R253. -/
def sched_bit_4_L : List MicroOp := [.bitR 4 .l]

/-- BIT 4,L (CB 65), R253. -/
def exec_bit_4_L (s : State) : Result := .next (runSchedule sched_bit_4_L s)

/-- BIT 4,(HL) (CB 66), R253. -/
def sched_bit_4_atHL : List MicroOp := [.idle, .bitHl 4]

/-- BIT 4,(HL) (CB 66), R253. -/
def exec_bit_4_atHL (s : State) : Result := .next (runSchedule sched_bit_4_atHL s)

/-- BIT 4,A (CB 67), R253. -/
def sched_bit_4_A : List MicroOp := [.bitR 4 .a]

/-- BIT 4,A (CB 67), R253. -/
def exec_bit_4_A (s : State) : Result := .next (runSchedule sched_bit_4_A s)

/-- BIT 5,B (CB 68), R253. -/
def sched_bit_5_B : List MicroOp := [.bitR 5 .b]

/-- BIT 5,B (CB 68), R253. -/
def exec_bit_5_B (s : State) : Result := .next (runSchedule sched_bit_5_B s)

/-- BIT 5,C (CB 69), R253. -/
def sched_bit_5_C : List MicroOp := [.bitR 5 .c]

/-- BIT 5,C (CB 69), R253. -/
def exec_bit_5_C (s : State) : Result := .next (runSchedule sched_bit_5_C s)

/-- BIT 5,D (CB 6A), R253. -/
def sched_bit_5_D : List MicroOp := [.bitR 5 .d]

/-- BIT 5,D (CB 6A), R253. -/
def exec_bit_5_D (s : State) : Result := .next (runSchedule sched_bit_5_D s)

/-- BIT 5,E (CB 6B), R253. -/
def sched_bit_5_E : List MicroOp := [.bitR 5 .e]

/-- BIT 5,E (CB 6B), R253. -/
def exec_bit_5_E (s : State) : Result := .next (runSchedule sched_bit_5_E s)

/-- BIT 5,H (CB 6C), R253. -/
def sched_bit_5_H : List MicroOp := [.bitR 5 .h]

/-- BIT 5,H (CB 6C), R253. -/
def exec_bit_5_H (s : State) : Result := .next (runSchedule sched_bit_5_H s)

/-- BIT 5,L (CB 6D), R253. -/
def sched_bit_5_L : List MicroOp := [.bitR 5 .l]

/-- BIT 5,L (CB 6D), R253. -/
def exec_bit_5_L (s : State) : Result := .next (runSchedule sched_bit_5_L s)

/-- BIT 5,(HL) (CB 6E), R253. -/
def sched_bit_5_atHL : List MicroOp := [.idle, .bitHl 5]

/-- BIT 5,(HL) (CB 6E), R253. -/
def exec_bit_5_atHL (s : State) : Result := .next (runSchedule sched_bit_5_atHL s)

/-- BIT 5,A (CB 6F), R253. -/
def sched_bit_5_A : List MicroOp := [.bitR 5 .a]

/-- BIT 5,A (CB 6F), R253. -/
def exec_bit_5_A (s : State) : Result := .next (runSchedule sched_bit_5_A s)

/-- BIT 6,B (CB 70), R253. -/
def sched_bit_6_B : List MicroOp := [.bitR 6 .b]

/-- BIT 6,B (CB 70), R253. -/
def exec_bit_6_B (s : State) : Result := .next (runSchedule sched_bit_6_B s)

/-- BIT 6,C (CB 71), R253. -/
def sched_bit_6_C : List MicroOp := [.bitR 6 .c]

/-- BIT 6,C (CB 71), R253. -/
def exec_bit_6_C (s : State) : Result := .next (runSchedule sched_bit_6_C s)

/-- BIT 6,D (CB 72), R253. -/
def sched_bit_6_D : List MicroOp := [.bitR 6 .d]

/-- BIT 6,D (CB 72), R253. -/
def exec_bit_6_D (s : State) : Result := .next (runSchedule sched_bit_6_D s)

/-- BIT 6,E (CB 73), R253. -/
def sched_bit_6_E : List MicroOp := [.bitR 6 .e]

/-- BIT 6,E (CB 73), R253. -/
def exec_bit_6_E (s : State) : Result := .next (runSchedule sched_bit_6_E s)

/-- BIT 6,H (CB 74), R253. -/
def sched_bit_6_H : List MicroOp := [.bitR 6 .h]

/-- BIT 6,H (CB 74), R253. -/
def exec_bit_6_H (s : State) : Result := .next (runSchedule sched_bit_6_H s)

/-- BIT 6,L (CB 75), R253. -/
def sched_bit_6_L : List MicroOp := [.bitR 6 .l]

/-- BIT 6,L (CB 75), R253. -/
def exec_bit_6_L (s : State) : Result := .next (runSchedule sched_bit_6_L s)

/-- BIT 6,(HL) (CB 76), R253. -/
def sched_bit_6_atHL : List MicroOp := [.idle, .bitHl 6]

/-- BIT 6,(HL) (CB 76), R253. -/
def exec_bit_6_atHL (s : State) : Result := .next (runSchedule sched_bit_6_atHL s)

/-- BIT 6,A (CB 77), R253. -/
def sched_bit_6_A : List MicroOp := [.bitR 6 .a]

/-- BIT 6,A (CB 77), R253. -/
def exec_bit_6_A (s : State) : Result := .next (runSchedule sched_bit_6_A s)

/-- BIT 7,B (CB 78), R253. -/
def sched_bit_7_B : List MicroOp := [.bitR 7 .b]

/-- BIT 7,B (CB 78), R253. -/
def exec_bit_7_B (s : State) : Result := .next (runSchedule sched_bit_7_B s)

/-- BIT 7,C (CB 79), R253. -/
def sched_bit_7_C : List MicroOp := [.bitR 7 .c]

/-- BIT 7,C (CB 79), R253. -/
def exec_bit_7_C (s : State) : Result := .next (runSchedule sched_bit_7_C s)

/-- BIT 7,D (CB 7A), R253. -/
def sched_bit_7_D : List MicroOp := [.bitR 7 .d]

/-- BIT 7,D (CB 7A), R253. -/
def exec_bit_7_D (s : State) : Result := .next (runSchedule sched_bit_7_D s)

/-- BIT 7,E (CB 7B), R253. -/
def sched_bit_7_E : List MicroOp := [.bitR 7 .e]

/-- BIT 7,E (CB 7B), R253. -/
def exec_bit_7_E (s : State) : Result := .next (runSchedule sched_bit_7_E s)

/-- BIT 7,H (CB 7C), R253. -/
def sched_bit_7_H : List MicroOp := [.bitR 7 .h]

/-- BIT 7,H (CB 7C), R253. -/
def exec_bit_7_H (s : State) : Result := .next (runSchedule sched_bit_7_H s)

/-- BIT 7,L (CB 7D), R253. -/
def sched_bit_7_L : List MicroOp := [.bitR 7 .l]

/-- BIT 7,L (CB 7D), R253. -/
def exec_bit_7_L (s : State) : Result := .next (runSchedule sched_bit_7_L s)

/-- BIT 7,(HL) (CB 7E), R253. -/
def sched_bit_7_atHL : List MicroOp := [.idle, .bitHl 7]

/-- BIT 7,(HL) (CB 7E), R253. -/
def exec_bit_7_atHL (s : State) : Result := .next (runSchedule sched_bit_7_atHL s)

/-- BIT 7,A (CB 7F), R253. -/
def sched_bit_7_A : List MicroOp := [.bitR 7 .a]

/-- BIT 7,A (CB 7F), R253. -/
def exec_bit_7_A (s : State) : Result := .next (runSchedule sched_bit_7_A s)

/-- RES 0,B (CB 80), R254. -/
def sched_res_0_B : List MicroOp := [.resR 0 .b]

/-- RES 0,B (CB 80), R254. -/
def exec_res_0_B (s : State) : Result := .next (runSchedule sched_res_0_B s)

/-- RES 0,C (CB 81), R254. -/
def sched_res_0_C : List MicroOp := [.resR 0 .c]

/-- RES 0,C (CB 81), R254. -/
def exec_res_0_C (s : State) : Result := .next (runSchedule sched_res_0_C s)

/-- RES 0,D (CB 82), R254. -/
def sched_res_0_D : List MicroOp := [.resR 0 .d]

/-- RES 0,D (CB 82), R254. -/
def exec_res_0_D (s : State) : Result := .next (runSchedule sched_res_0_D s)

/-- RES 0,E (CB 83), R254. -/
def sched_res_0_E : List MicroOp := [.resR 0 .e]

/-- RES 0,E (CB 83), R254. -/
def exec_res_0_E (s : State) : Result := .next (runSchedule sched_res_0_E s)

/-- RES 0,H (CB 84), R254. -/
def sched_res_0_H : List MicroOp := [.resR 0 .h]

/-- RES 0,H (CB 84), R254. -/
def exec_res_0_H (s : State) : Result := .next (runSchedule sched_res_0_H s)

/-- RES 0,L (CB 85), R254. -/
def sched_res_0_L : List MicroOp := [.resR 0 .l]

/-- RES 0,L (CB 85), R254. -/
def exec_res_0_L (s : State) : Result := .next (runSchedule sched_res_0_L s)

/-- RES 0,(HL) (CB 86), R254. -/
def sched_res_0_atHL : List MicroOp := [.idle, .readHl, .resHl 0]

/-- RES 0,(HL) (CB 86), R254. -/
def exec_res_0_atHL (s : State) : Result := .next (runSchedule sched_res_0_atHL s)

/-- RES 0,A (CB 87), R254. -/
def sched_res_0_A : List MicroOp := [.resR 0 .a]

/-- RES 0,A (CB 87), R254. -/
def exec_res_0_A (s : State) : Result := .next (runSchedule sched_res_0_A s)

/-- RES 1,B (CB 88), R254. -/
def sched_res_1_B : List MicroOp := [.resR 1 .b]

/-- RES 1,B (CB 88), R254. -/
def exec_res_1_B (s : State) : Result := .next (runSchedule sched_res_1_B s)

/-- RES 1,C (CB 89), R254. -/
def sched_res_1_C : List MicroOp := [.resR 1 .c]

/-- RES 1,C (CB 89), R254. -/
def exec_res_1_C (s : State) : Result := .next (runSchedule sched_res_1_C s)

/-- RES 1,D (CB 8A), R254. -/
def sched_res_1_D : List MicroOp := [.resR 1 .d]

/-- RES 1,D (CB 8A), R254. -/
def exec_res_1_D (s : State) : Result := .next (runSchedule sched_res_1_D s)

/-- RES 1,E (CB 8B), R254. -/
def sched_res_1_E : List MicroOp := [.resR 1 .e]

/-- RES 1,E (CB 8B), R254. -/
def exec_res_1_E (s : State) : Result := .next (runSchedule sched_res_1_E s)

/-- RES 1,H (CB 8C), R254. -/
def sched_res_1_H : List MicroOp := [.resR 1 .h]

/-- RES 1,H (CB 8C), R254. -/
def exec_res_1_H (s : State) : Result := .next (runSchedule sched_res_1_H s)

/-- RES 1,L (CB 8D), R254. -/
def sched_res_1_L : List MicroOp := [.resR 1 .l]

/-- RES 1,L (CB 8D), R254. -/
def exec_res_1_L (s : State) : Result := .next (runSchedule sched_res_1_L s)

/-- RES 1,(HL) (CB 8E), R254. -/
def sched_res_1_atHL : List MicroOp := [.idle, .readHl, .resHl 1]

/-- RES 1,(HL) (CB 8E), R254. -/
def exec_res_1_atHL (s : State) : Result := .next (runSchedule sched_res_1_atHL s)

/-- RES 1,A (CB 8F), R254. -/
def sched_res_1_A : List MicroOp := [.resR 1 .a]

/-- RES 1,A (CB 8F), R254. -/
def exec_res_1_A (s : State) : Result := .next (runSchedule sched_res_1_A s)

/-- RES 2,B (CB 90), R254. -/
def sched_res_2_B : List MicroOp := [.resR 2 .b]

/-- RES 2,B (CB 90), R254. -/
def exec_res_2_B (s : State) : Result := .next (runSchedule sched_res_2_B s)

/-- RES 2,C (CB 91), R254. -/
def sched_res_2_C : List MicroOp := [.resR 2 .c]

/-- RES 2,C (CB 91), R254. -/
def exec_res_2_C (s : State) : Result := .next (runSchedule sched_res_2_C s)

/-- RES 2,D (CB 92), R254. -/
def sched_res_2_D : List MicroOp := [.resR 2 .d]

/-- RES 2,D (CB 92), R254. -/
def exec_res_2_D (s : State) : Result := .next (runSchedule sched_res_2_D s)

/-- RES 2,E (CB 93), R254. -/
def sched_res_2_E : List MicroOp := [.resR 2 .e]

/-- RES 2,E (CB 93), R254. -/
def exec_res_2_E (s : State) : Result := .next (runSchedule sched_res_2_E s)

/-- RES 2,H (CB 94), R254. -/
def sched_res_2_H : List MicroOp := [.resR 2 .h]

/-- RES 2,H (CB 94), R254. -/
def exec_res_2_H (s : State) : Result := .next (runSchedule sched_res_2_H s)

/-- RES 2,L (CB 95), R254. -/
def sched_res_2_L : List MicroOp := [.resR 2 .l]

/-- RES 2,L (CB 95), R254. -/
def exec_res_2_L (s : State) : Result := .next (runSchedule sched_res_2_L s)

/-- RES 2,(HL) (CB 96), R254. -/
def sched_res_2_atHL : List MicroOp := [.idle, .readHl, .resHl 2]

/-- RES 2,(HL) (CB 96), R254. -/
def exec_res_2_atHL (s : State) : Result := .next (runSchedule sched_res_2_atHL s)

/-- RES 2,A (CB 97), R254. -/
def sched_res_2_A : List MicroOp := [.resR 2 .a]

/-- RES 2,A (CB 97), R254. -/
def exec_res_2_A (s : State) : Result := .next (runSchedule sched_res_2_A s)

/-- RES 3,B (CB 98), R254. -/
def sched_res_3_B : List MicroOp := [.resR 3 .b]

/-- RES 3,B (CB 98), R254. -/
def exec_res_3_B (s : State) : Result := .next (runSchedule sched_res_3_B s)

/-- RES 3,C (CB 99), R254. -/
def sched_res_3_C : List MicroOp := [.resR 3 .c]

/-- RES 3,C (CB 99), R254. -/
def exec_res_3_C (s : State) : Result := .next (runSchedule sched_res_3_C s)

/-- RES 3,D (CB 9A), R254. -/
def sched_res_3_D : List MicroOp := [.resR 3 .d]

/-- RES 3,D (CB 9A), R254. -/
def exec_res_3_D (s : State) : Result := .next (runSchedule sched_res_3_D s)

/-- RES 3,E (CB 9B), R254. -/
def sched_res_3_E : List MicroOp := [.resR 3 .e]

/-- RES 3,E (CB 9B), R254. -/
def exec_res_3_E (s : State) : Result := .next (runSchedule sched_res_3_E s)

/-- RES 3,H (CB 9C), R254. -/
def sched_res_3_H : List MicroOp := [.resR 3 .h]

/-- RES 3,H (CB 9C), R254. -/
def exec_res_3_H (s : State) : Result := .next (runSchedule sched_res_3_H s)

/-- RES 3,L (CB 9D), R254. -/
def sched_res_3_L : List MicroOp := [.resR 3 .l]

/-- RES 3,L (CB 9D), R254. -/
def exec_res_3_L (s : State) : Result := .next (runSchedule sched_res_3_L s)

/-- RES 3,(HL) (CB 9E), R254. -/
def sched_res_3_atHL : List MicroOp := [.idle, .readHl, .resHl 3]

/-- RES 3,(HL) (CB 9E), R254. -/
def exec_res_3_atHL (s : State) : Result := .next (runSchedule sched_res_3_atHL s)

/-- RES 3,A (CB 9F), R254. -/
def sched_res_3_A : List MicroOp := [.resR 3 .a]

/-- RES 3,A (CB 9F), R254. -/
def exec_res_3_A (s : State) : Result := .next (runSchedule sched_res_3_A s)

/-- RES 4,B (CB A0), R254. -/
def sched_res_4_B : List MicroOp := [.resR 4 .b]

/-- RES 4,B (CB A0), R254. -/
def exec_res_4_B (s : State) : Result := .next (runSchedule sched_res_4_B s)

/-- RES 4,C (CB A1), R254. -/
def sched_res_4_C : List MicroOp := [.resR 4 .c]

/-- RES 4,C (CB A1), R254. -/
def exec_res_4_C (s : State) : Result := .next (runSchedule sched_res_4_C s)

/-- RES 4,D (CB A2), R254. -/
def sched_res_4_D : List MicroOp := [.resR 4 .d]

/-- RES 4,D (CB A2), R254. -/
def exec_res_4_D (s : State) : Result := .next (runSchedule sched_res_4_D s)

/-- RES 4,E (CB A3), R254. -/
def sched_res_4_E : List MicroOp := [.resR 4 .e]

/-- RES 4,E (CB A3), R254. -/
def exec_res_4_E (s : State) : Result := .next (runSchedule sched_res_4_E s)

/-- RES 4,H (CB A4), R254. -/
def sched_res_4_H : List MicroOp := [.resR 4 .h]

/-- RES 4,H (CB A4), R254. -/
def exec_res_4_H (s : State) : Result := .next (runSchedule sched_res_4_H s)

/-- RES 4,L (CB A5), R254. -/
def sched_res_4_L : List MicroOp := [.resR 4 .l]

/-- RES 4,L (CB A5), R254. -/
def exec_res_4_L (s : State) : Result := .next (runSchedule sched_res_4_L s)

/-- RES 4,(HL) (CB A6), R254. -/
def sched_res_4_atHL : List MicroOp := [.idle, .readHl, .resHl 4]

/-- RES 4,(HL) (CB A6), R254. -/
def exec_res_4_atHL (s : State) : Result := .next (runSchedule sched_res_4_atHL s)

/-- RES 4,A (CB A7), R254. -/
def sched_res_4_A : List MicroOp := [.resR 4 .a]

/-- RES 4,A (CB A7), R254. -/
def exec_res_4_A (s : State) : Result := .next (runSchedule sched_res_4_A s)

/-- RES 5,B (CB A8), R254. -/
def sched_res_5_B : List MicroOp := [.resR 5 .b]

/-- RES 5,B (CB A8), R254. -/
def exec_res_5_B (s : State) : Result := .next (runSchedule sched_res_5_B s)

/-- RES 5,C (CB A9), R254. -/
def sched_res_5_C : List MicroOp := [.resR 5 .c]

/-- RES 5,C (CB A9), R254. -/
def exec_res_5_C (s : State) : Result := .next (runSchedule sched_res_5_C s)

/-- RES 5,D (CB AA), R254. -/
def sched_res_5_D : List MicroOp := [.resR 5 .d]

/-- RES 5,D (CB AA), R254. -/
def exec_res_5_D (s : State) : Result := .next (runSchedule sched_res_5_D s)

/-- RES 5,E (CB AB), R254. -/
def sched_res_5_E : List MicroOp := [.resR 5 .e]

/-- RES 5,E (CB AB), R254. -/
def exec_res_5_E (s : State) : Result := .next (runSchedule sched_res_5_E s)

/-- RES 5,H (CB AC), R254. -/
def sched_res_5_H : List MicroOp := [.resR 5 .h]

/-- RES 5,H (CB AC), R254. -/
def exec_res_5_H (s : State) : Result := .next (runSchedule sched_res_5_H s)

/-- RES 5,L (CB AD), R254. -/
def sched_res_5_L : List MicroOp := [.resR 5 .l]

/-- RES 5,L (CB AD), R254. -/
def exec_res_5_L (s : State) : Result := .next (runSchedule sched_res_5_L s)

/-- RES 5,(HL) (CB AE), R254. -/
def sched_res_5_atHL : List MicroOp := [.idle, .readHl, .resHl 5]

/-- RES 5,(HL) (CB AE), R254. -/
def exec_res_5_atHL (s : State) : Result := .next (runSchedule sched_res_5_atHL s)

/-- RES 5,A (CB AF), R254. -/
def sched_res_5_A : List MicroOp := [.resR 5 .a]

/-- RES 5,A (CB AF), R254. -/
def exec_res_5_A (s : State) : Result := .next (runSchedule sched_res_5_A s)

/-- RES 6,B (CB B0), R254. -/
def sched_res_6_B : List MicroOp := [.resR 6 .b]

/-- RES 6,B (CB B0), R254. -/
def exec_res_6_B (s : State) : Result := .next (runSchedule sched_res_6_B s)

/-- RES 6,C (CB B1), R254. -/
def sched_res_6_C : List MicroOp := [.resR 6 .c]

/-- RES 6,C (CB B1), R254. -/
def exec_res_6_C (s : State) : Result := .next (runSchedule sched_res_6_C s)

/-- RES 6,D (CB B2), R254. -/
def sched_res_6_D : List MicroOp := [.resR 6 .d]

/-- RES 6,D (CB B2), R254. -/
def exec_res_6_D (s : State) : Result := .next (runSchedule sched_res_6_D s)

/-- RES 6,E (CB B3), R254. -/
def sched_res_6_E : List MicroOp := [.resR 6 .e]

/-- RES 6,E (CB B3), R254. -/
def exec_res_6_E (s : State) : Result := .next (runSchedule sched_res_6_E s)

/-- RES 6,H (CB B4), R254. -/
def sched_res_6_H : List MicroOp := [.resR 6 .h]

/-- RES 6,H (CB B4), R254. -/
def exec_res_6_H (s : State) : Result := .next (runSchedule sched_res_6_H s)

/-- RES 6,L (CB B5), R254. -/
def sched_res_6_L : List MicroOp := [.resR 6 .l]

/-- RES 6,L (CB B5), R254. -/
def exec_res_6_L (s : State) : Result := .next (runSchedule sched_res_6_L s)

/-- RES 6,(HL) (CB B6), R254. -/
def sched_res_6_atHL : List MicroOp := [.idle, .readHl, .resHl 6]

/-- RES 6,(HL) (CB B6), R254. -/
def exec_res_6_atHL (s : State) : Result := .next (runSchedule sched_res_6_atHL s)

/-- RES 6,A (CB B7), R254. -/
def sched_res_6_A : List MicroOp := [.resR 6 .a]

/-- RES 6,A (CB B7), R254. -/
def exec_res_6_A (s : State) : Result := .next (runSchedule sched_res_6_A s)

/-- RES 7,B (CB B8), R254. -/
def sched_res_7_B : List MicroOp := [.resR 7 .b]

/-- RES 7,B (CB B8), R254. -/
def exec_res_7_B (s : State) : Result := .next (runSchedule sched_res_7_B s)

/-- RES 7,C (CB B9), R254. -/
def sched_res_7_C : List MicroOp := [.resR 7 .c]

/-- RES 7,C (CB B9), R254. -/
def exec_res_7_C (s : State) : Result := .next (runSchedule sched_res_7_C s)

/-- RES 7,D (CB BA), R254. -/
def sched_res_7_D : List MicroOp := [.resR 7 .d]

/-- RES 7,D (CB BA), R254. -/
def exec_res_7_D (s : State) : Result := .next (runSchedule sched_res_7_D s)

/-- RES 7,E (CB BB), R254. -/
def sched_res_7_E : List MicroOp := [.resR 7 .e]

/-- RES 7,E (CB BB), R254. -/
def exec_res_7_E (s : State) : Result := .next (runSchedule sched_res_7_E s)

/-- RES 7,H (CB BC), R254. -/
def sched_res_7_H : List MicroOp := [.resR 7 .h]

/-- RES 7,H (CB BC), R254. -/
def exec_res_7_H (s : State) : Result := .next (runSchedule sched_res_7_H s)

/-- RES 7,L (CB BD), R254. -/
def sched_res_7_L : List MicroOp := [.resR 7 .l]

/-- RES 7,L (CB BD), R254. -/
def exec_res_7_L (s : State) : Result := .next (runSchedule sched_res_7_L s)

/-- RES 7,(HL) (CB BE), R254. -/
def sched_res_7_atHL : List MicroOp := [.idle, .readHl, .resHl 7]

/-- RES 7,(HL) (CB BE), R254. -/
def exec_res_7_atHL (s : State) : Result := .next (runSchedule sched_res_7_atHL s)

/-- RES 7,A (CB BF), R254. -/
def sched_res_7_A : List MicroOp := [.resR 7 .a]

/-- RES 7,A (CB BF), R254. -/
def exec_res_7_A (s : State) : Result := .next (runSchedule sched_res_7_A s)

/-- SET 0,B (CB C0), R255. -/
def sched_set_0_B : List MicroOp := [.setR 0 .b]

/-- SET 0,B (CB C0), R255. -/
def exec_set_0_B (s : State) : Result := .next (runSchedule sched_set_0_B s)

/-- SET 0,C (CB C1), R255. -/
def sched_set_0_C : List MicroOp := [.setR 0 .c]

/-- SET 0,C (CB C1), R255. -/
def exec_set_0_C (s : State) : Result := .next (runSchedule sched_set_0_C s)

/-- SET 0,D (CB C2), R255. -/
def sched_set_0_D : List MicroOp := [.setR 0 .d]

/-- SET 0,D (CB C2), R255. -/
def exec_set_0_D (s : State) : Result := .next (runSchedule sched_set_0_D s)

/-- SET 0,E (CB C3), R255. -/
def sched_set_0_E : List MicroOp := [.setR 0 .e]

/-- SET 0,E (CB C3), R255. -/
def exec_set_0_E (s : State) : Result := .next (runSchedule sched_set_0_E s)

/-- SET 0,H (CB C4), R255. -/
def sched_set_0_H : List MicroOp := [.setR 0 .h]

/-- SET 0,H (CB C4), R255. -/
def exec_set_0_H (s : State) : Result := .next (runSchedule sched_set_0_H s)

/-- SET 0,L (CB C5), R255. -/
def sched_set_0_L : List MicroOp := [.setR 0 .l]

/-- SET 0,L (CB C5), R255. -/
def exec_set_0_L (s : State) : Result := .next (runSchedule sched_set_0_L s)

/-- SET 0,(HL) (CB C6), R255. -/
def sched_set_0_atHL : List MicroOp := [.idle, .readHl, .setHl 0]

/-- SET 0,(HL) (CB C6), R255. -/
def exec_set_0_atHL (s : State) : Result := .next (runSchedule sched_set_0_atHL s)

/-- SET 0,A (CB C7), R255. -/
def sched_set_0_A : List MicroOp := [.setR 0 .a]

/-- SET 0,A (CB C7), R255. -/
def exec_set_0_A (s : State) : Result := .next (runSchedule sched_set_0_A s)

/-- SET 1,B (CB C8), R255. -/
def sched_set_1_B : List MicroOp := [.setR 1 .b]

/-- SET 1,B (CB C8), R255. -/
def exec_set_1_B (s : State) : Result := .next (runSchedule sched_set_1_B s)

/-- SET 1,C (CB C9), R255. -/
def sched_set_1_C : List MicroOp := [.setR 1 .c]

/-- SET 1,C (CB C9), R255. -/
def exec_set_1_C (s : State) : Result := .next (runSchedule sched_set_1_C s)

/-- SET 1,D (CB CA), R255. -/
def sched_set_1_D : List MicroOp := [.setR 1 .d]

/-- SET 1,D (CB CA), R255. -/
def exec_set_1_D (s : State) : Result := .next (runSchedule sched_set_1_D s)

/-- SET 1,E (CB CB), R255. -/
def sched_set_1_E : List MicroOp := [.setR 1 .e]

/-- SET 1,E (CB CB), R255. -/
def exec_set_1_E (s : State) : Result := .next (runSchedule sched_set_1_E s)

/-- SET 1,H (CB CC), R255. -/
def sched_set_1_H : List MicroOp := [.setR 1 .h]

/-- SET 1,H (CB CC), R255. -/
def exec_set_1_H (s : State) : Result := .next (runSchedule sched_set_1_H s)

/-- SET 1,L (CB CD), R255. -/
def sched_set_1_L : List MicroOp := [.setR 1 .l]

/-- SET 1,L (CB CD), R255. -/
def exec_set_1_L (s : State) : Result := .next (runSchedule sched_set_1_L s)

/-- SET 1,(HL) (CB CE), R255. -/
def sched_set_1_atHL : List MicroOp := [.idle, .readHl, .setHl 1]

/-- SET 1,(HL) (CB CE), R255. -/
def exec_set_1_atHL (s : State) : Result := .next (runSchedule sched_set_1_atHL s)

/-- SET 1,A (CB CF), R255. -/
def sched_set_1_A : List MicroOp := [.setR 1 .a]

/-- SET 1,A (CB CF), R255. -/
def exec_set_1_A (s : State) : Result := .next (runSchedule sched_set_1_A s)

/-- SET 2,B (CB D0), R255. -/
def sched_set_2_B : List MicroOp := [.setR 2 .b]

/-- SET 2,B (CB D0), R255. -/
def exec_set_2_B (s : State) : Result := .next (runSchedule sched_set_2_B s)

/-- SET 2,C (CB D1), R255. -/
def sched_set_2_C : List MicroOp := [.setR 2 .c]

/-- SET 2,C (CB D1), R255. -/
def exec_set_2_C (s : State) : Result := .next (runSchedule sched_set_2_C s)

/-- SET 2,D (CB D2), R255. -/
def sched_set_2_D : List MicroOp := [.setR 2 .d]

/-- SET 2,D (CB D2), R255. -/
def exec_set_2_D (s : State) : Result := .next (runSchedule sched_set_2_D s)

/-- SET 2,E (CB D3), R255. -/
def sched_set_2_E : List MicroOp := [.setR 2 .e]

/-- SET 2,E (CB D3), R255. -/
def exec_set_2_E (s : State) : Result := .next (runSchedule sched_set_2_E s)

/-- SET 2,H (CB D4), R255. -/
def sched_set_2_H : List MicroOp := [.setR 2 .h]

/-- SET 2,H (CB D4), R255. -/
def exec_set_2_H (s : State) : Result := .next (runSchedule sched_set_2_H s)

/-- SET 2,L (CB D5), R255. -/
def sched_set_2_L : List MicroOp := [.setR 2 .l]

/-- SET 2,L (CB D5), R255. -/
def exec_set_2_L (s : State) : Result := .next (runSchedule sched_set_2_L s)

/-- SET 2,(HL) (CB D6), R255. -/
def sched_set_2_atHL : List MicroOp := [.idle, .readHl, .setHl 2]

/-- SET 2,(HL) (CB D6), R255. -/
def exec_set_2_atHL (s : State) : Result := .next (runSchedule sched_set_2_atHL s)

/-- SET 2,A (CB D7), R255. -/
def sched_set_2_A : List MicroOp := [.setR 2 .a]

/-- SET 2,A (CB D7), R255. -/
def exec_set_2_A (s : State) : Result := .next (runSchedule sched_set_2_A s)

/-- SET 3,B (CB D8), R255. -/
def sched_set_3_B : List MicroOp := [.setR 3 .b]

/-- SET 3,B (CB D8), R255. -/
def exec_set_3_B (s : State) : Result := .next (runSchedule sched_set_3_B s)

/-- SET 3,C (CB D9), R255. -/
def sched_set_3_C : List MicroOp := [.setR 3 .c]

/-- SET 3,C (CB D9), R255. -/
def exec_set_3_C (s : State) : Result := .next (runSchedule sched_set_3_C s)

/-- SET 3,D (CB DA), R255. -/
def sched_set_3_D : List MicroOp := [.setR 3 .d]

/-- SET 3,D (CB DA), R255. -/
def exec_set_3_D (s : State) : Result := .next (runSchedule sched_set_3_D s)

/-- SET 3,E (CB DB), R255. -/
def sched_set_3_E : List MicroOp := [.setR 3 .e]

/-- SET 3,E (CB DB), R255. -/
def exec_set_3_E (s : State) : Result := .next (runSchedule sched_set_3_E s)

/-- SET 3,H (CB DC), R255. -/
def sched_set_3_H : List MicroOp := [.setR 3 .h]

/-- SET 3,H (CB DC), R255. -/
def exec_set_3_H (s : State) : Result := .next (runSchedule sched_set_3_H s)

/-- SET 3,L (CB DD), R255. -/
def sched_set_3_L : List MicroOp := [.setR 3 .l]

/-- SET 3,L (CB DD), R255. -/
def exec_set_3_L (s : State) : Result := .next (runSchedule sched_set_3_L s)

/-- SET 3,(HL) (CB DE), R255. -/
def sched_set_3_atHL : List MicroOp := [.idle, .readHl, .setHl 3]

/-- SET 3,(HL) (CB DE), R255. -/
def exec_set_3_atHL (s : State) : Result := .next (runSchedule sched_set_3_atHL s)

/-- SET 3,A (CB DF), R255. -/
def sched_set_3_A : List MicroOp := [.setR 3 .a]

/-- SET 3,A (CB DF), R255. -/
def exec_set_3_A (s : State) : Result := .next (runSchedule sched_set_3_A s)

/-- SET 4,B (CB E0), R255. -/
def sched_set_4_B : List MicroOp := [.setR 4 .b]

/-- SET 4,B (CB E0), R255. -/
def exec_set_4_B (s : State) : Result := .next (runSchedule sched_set_4_B s)

/-- SET 4,C (CB E1), R255. -/
def sched_set_4_C : List MicroOp := [.setR 4 .c]

/-- SET 4,C (CB E1), R255. -/
def exec_set_4_C (s : State) : Result := .next (runSchedule sched_set_4_C s)

/-- SET 4,D (CB E2), R255. -/
def sched_set_4_D : List MicroOp := [.setR 4 .d]

/-- SET 4,D (CB E2), R255. -/
def exec_set_4_D (s : State) : Result := .next (runSchedule sched_set_4_D s)

/-- SET 4,E (CB E3), R255. -/
def sched_set_4_E : List MicroOp := [.setR 4 .e]

/-- SET 4,E (CB E3), R255. -/
def exec_set_4_E (s : State) : Result := .next (runSchedule sched_set_4_E s)

/-- SET 4,H (CB E4), R255. -/
def sched_set_4_H : List MicroOp := [.setR 4 .h]

/-- SET 4,H (CB E4), R255. -/
def exec_set_4_H (s : State) : Result := .next (runSchedule sched_set_4_H s)

/-- SET 4,L (CB E5), R255. -/
def sched_set_4_L : List MicroOp := [.setR 4 .l]

/-- SET 4,L (CB E5), R255. -/
def exec_set_4_L (s : State) : Result := .next (runSchedule sched_set_4_L s)

/-- SET 4,(HL) (CB E6), R255. -/
def sched_set_4_atHL : List MicroOp := [.idle, .readHl, .setHl 4]

/-- SET 4,(HL) (CB E6), R255. -/
def exec_set_4_atHL (s : State) : Result := .next (runSchedule sched_set_4_atHL s)

/-- SET 4,A (CB E7), R255. -/
def sched_set_4_A : List MicroOp := [.setR 4 .a]

/-- SET 4,A (CB E7), R255. -/
def exec_set_4_A (s : State) : Result := .next (runSchedule sched_set_4_A s)

/-- SET 5,B (CB E8), R255. -/
def sched_set_5_B : List MicroOp := [.setR 5 .b]

/-- SET 5,B (CB E8), R255. -/
def exec_set_5_B (s : State) : Result := .next (runSchedule sched_set_5_B s)

/-- SET 5,C (CB E9), R255. -/
def sched_set_5_C : List MicroOp := [.setR 5 .c]

/-- SET 5,C (CB E9), R255. -/
def exec_set_5_C (s : State) : Result := .next (runSchedule sched_set_5_C s)

/-- SET 5,D (CB EA), R255. -/
def sched_set_5_D : List MicroOp := [.setR 5 .d]

/-- SET 5,D (CB EA), R255. -/
def exec_set_5_D (s : State) : Result := .next (runSchedule sched_set_5_D s)

/-- SET 5,E (CB EB), R255. -/
def sched_set_5_E : List MicroOp := [.setR 5 .e]

/-- SET 5,E (CB EB), R255. -/
def exec_set_5_E (s : State) : Result := .next (runSchedule sched_set_5_E s)

/-- SET 5,H (CB EC), R255. -/
def sched_set_5_H : List MicroOp := [.setR 5 .h]

/-- SET 5,H (CB EC), R255. -/
def exec_set_5_H (s : State) : Result := .next (runSchedule sched_set_5_H s)

/-- SET 5,L (CB ED), R255. -/
def sched_set_5_L : List MicroOp := [.setR 5 .l]

/-- SET 5,L (CB ED), R255. -/
def exec_set_5_L (s : State) : Result := .next (runSchedule sched_set_5_L s)

/-- SET 5,(HL) (CB EE), R255. -/
def sched_set_5_atHL : List MicroOp := [.idle, .readHl, .setHl 5]

/-- SET 5,(HL) (CB EE), R255. -/
def exec_set_5_atHL (s : State) : Result := .next (runSchedule sched_set_5_atHL s)

/-- SET 5,A (CB EF), R255. -/
def sched_set_5_A : List MicroOp := [.setR 5 .a]

/-- SET 5,A (CB EF), R255. -/
def exec_set_5_A (s : State) : Result := .next (runSchedule sched_set_5_A s)

/-- SET 6,B (CB F0), R255. -/
def sched_set_6_B : List MicroOp := [.setR 6 .b]

/-- SET 6,B (CB F0), R255. -/
def exec_set_6_B (s : State) : Result := .next (runSchedule sched_set_6_B s)

/-- SET 6,C (CB F1), R255. -/
def sched_set_6_C : List MicroOp := [.setR 6 .c]

/-- SET 6,C (CB F1), R255. -/
def exec_set_6_C (s : State) : Result := .next (runSchedule sched_set_6_C s)

/-- SET 6,D (CB F2), R255. -/
def sched_set_6_D : List MicroOp := [.setR 6 .d]

/-- SET 6,D (CB F2), R255. -/
def exec_set_6_D (s : State) : Result := .next (runSchedule sched_set_6_D s)

/-- SET 6,E (CB F3), R255. -/
def sched_set_6_E : List MicroOp := [.setR 6 .e]

/-- SET 6,E (CB F3), R255. -/
def exec_set_6_E (s : State) : Result := .next (runSchedule sched_set_6_E s)

/-- SET 6,H (CB F4), R255. -/
def sched_set_6_H : List MicroOp := [.setR 6 .h]

/-- SET 6,H (CB F4), R255. -/
def exec_set_6_H (s : State) : Result := .next (runSchedule sched_set_6_H s)

/-- SET 6,L (CB F5), R255. -/
def sched_set_6_L : List MicroOp := [.setR 6 .l]

/-- SET 6,L (CB F5), R255. -/
def exec_set_6_L (s : State) : Result := .next (runSchedule sched_set_6_L s)

/-- SET 6,(HL) (CB F6), R255. -/
def sched_set_6_atHL : List MicroOp := [.idle, .readHl, .setHl 6]

/-- SET 6,(HL) (CB F6), R255. -/
def exec_set_6_atHL (s : State) : Result := .next (runSchedule sched_set_6_atHL s)

/-- SET 6,A (CB F7), R255. -/
def sched_set_6_A : List MicroOp := [.setR 6 .a]

/-- SET 6,A (CB F7), R255. -/
def exec_set_6_A (s : State) : Result := .next (runSchedule sched_set_6_A s)

/-- SET 7,B (CB F8), R255. -/
def sched_set_7_B : List MicroOp := [.setR 7 .b]

/-- SET 7,B (CB F8), R255. -/
def exec_set_7_B (s : State) : Result := .next (runSchedule sched_set_7_B s)

/-- SET 7,C (CB F9), R255. -/
def sched_set_7_C : List MicroOp := [.setR 7 .c]

/-- SET 7,C (CB F9), R255. -/
def exec_set_7_C (s : State) : Result := .next (runSchedule sched_set_7_C s)

/-- SET 7,D (CB FA), R255. -/
def sched_set_7_D : List MicroOp := [.setR 7 .d]

/-- SET 7,D (CB FA), R255. -/
def exec_set_7_D (s : State) : Result := .next (runSchedule sched_set_7_D s)

/-- SET 7,E (CB FB), R255. -/
def sched_set_7_E : List MicroOp := [.setR 7 .e]

/-- SET 7,E (CB FB), R255. -/
def exec_set_7_E (s : State) : Result := .next (runSchedule sched_set_7_E s)

/-- SET 7,H (CB FC), R255. -/
def sched_set_7_H : List MicroOp := [.setR 7 .h]

/-- SET 7,H (CB FC), R255. -/
def exec_set_7_H (s : State) : Result := .next (runSchedule sched_set_7_H s)

/-- SET 7,L (CB FD), R255. -/
def sched_set_7_L : List MicroOp := [.setR 7 .l]

/-- SET 7,L (CB FD), R255. -/
def exec_set_7_L (s : State) : Result := .next (runSchedule sched_set_7_L s)

/-- SET 7,(HL) (CB FE), R255. -/
def sched_set_7_atHL : List MicroOp := [.idle, .readHl, .setHl 7]

/-- SET 7,(HL) (CB FE), R255. -/
def exec_set_7_atHL (s : State) : Result := .next (runSchedule sched_set_7_atHL s)

/-- SET 7,A (CB FF), R255. -/
def sched_set_7_A : List MicroOp := [.setR 7 .a]

/-- SET 7,A (CB FF), R255. -/
def exec_set_7_A (s : State) : Result := .next (runSchedule sched_set_7_A s)

end Sys2Proof.Machine
end

