-- ==== Sys2Proof/Machine/Sequencer.lean ====
section
/-! DEFINITION. One step of the machine, whole instruction by whole instruction: what happens at an instruction boundary (R131
to R133), the fetch and execution of one instruction, the rest of a schedule already in flight, and the placing of an
instruction where the next step fetches. The M-cycle by M-cycle machine of R130 is Machine/System.lean. -/
namespace Sys2Proof.Machine

/-- Go on with the next state, if there is one. -/
def onNext (r : Result) (f : State → State) : Result :=
  match r with
  | .next s => .next (f s)
  | .fault e => .fault e
  | .refused e => .refused e

/-- Execute fetched bytes, then complete the instruction and the system step of its last M-cycle. -/
def execute (f : List Byte × State) : Result :=
  match decodeFetched f.1 with
  | .ok (i, _) => onNext (exec i f.2) State.complete
  | .error e => .refused (.fetch e)

/-- At an instruction boundary, in this order (R131): interrupt service when IME = 1 and an interrupt is pending (R132); an idle
M-cycle when halted with none pending (R133); otherwise the next instruction, which leaves the Halted state (R133). -/
def boundaryStep (s : State) : Result :=
  if s.ime ∧ s.pending ≠ 0 then .next s.takeInterrupt.tick
  else if s.halted ∧ s.pending = 0 then .next s.tick
  else execute (State.fetchInstr { s with halted := false })

/-- The end of a piece of work: an instruction's completion advances the EI delay, a service's does not (R131, R134). -/
def State.finishWork (s : State) (kind : WorkKind) : State :=
  match kind with
  | .instruction => { s.eiTick with inflight := .none }
  | .service => { s with inflight := .none }

/-- One step: up to and including the system step in which the sequencer's queue is empty again. From an instruction boundary
that is one instruction, one interrupt service or one idle M-cycle; from within an instruction or a service, the rest of it
(R136). -/
def engineStep (s : State) : Result :=
  if s.params.accepted then
    match s.inflight with
    | .none => boundaryStep s
    | .operand op => execute (State.fetchSecond { s with inflight := .none } op)
    | .operand2 op lo => execute (State.fetchThird { s with inflight := .none } op lo)
    | .running kind m rest =>
      .next (State.tick (State.finishWork (runSchedule (m :: rest) s) kind))
  else .refused (.romSize s.params.romSize)

/-! ## Placing an instruction -/

/-- The address is backed by memory, so that a byte can be placed at it. -/
def State.placeable (s : State) (addr : Word) : Bool :=
  let a := addr.toNat
  decide (a ≤ 0x9FFF) || (decide (0xA000 ≤ a) && decide (a ≤ 0xBFFF) && (s.eramOffset a).isSome)
    || (decide (0xC000 ≤ a) && decide (a ≤ 0xFE9F)) || (decide (0xFF80 ≤ a) && decide (a ≤ 0xFFFE))

/-- Put a byte where a fetch at the address reads it: the boot ROM where the overlay answers, the cartridge's ROM image in
its windows, the RAM array elsewhere. -/
def State.placeByte (s : State) (addr : Word) (v : Byte) : State :=
  let a := addr.toNat
  if s.bootCovers a then { s with params := { s.params with bootRom := s.params.bootRom.write a v } }
  else if a ≤ 0x7FFF then
    { s with params := { s.params with rom := s.params.rom.write (s.romOffset a) v,
                                       romSize := max s.params.romSize (s.romOffset a + 1) } }
  else s.busWrite addr v

/-- Make the next step a fetch at PC that sees memory: at a boundary, not halted, no interrupt about to be taken, no suppressed
increment, no DMA block, parameters the model accepts, and PC where memory answers. Each is changed only where it
stands in the fetch's way. -/
def State.readyToFetch (s : State) : State :=
  let s := { s with inflight := .none, halted := false, haltBug := false }
  let s := if s.ime ∧ s.pending ≠ 0 then { s with ime := false } else s
  let s := if s.dma.active then { s with dma := { s.dma with active := false } } else s
  let s := if s.params.accepted then s
           else { s with params := { s.params with romSize := max 1 ((s.params.romSize + 0x3FFF) / 0x4000) * 0x4000 } }
  if s.placeable s.pc ∧ s.placeable (s.pc + 1) ∧ s.placeable (s.pc + 2) then s else { s with pc := 0xC000 }

/-- Place bytes at consecutive addresses. -/
def State.placeBytes : List Byte → Word → State → State
  | [], _, s => s
  | v :: rest, a, s => State.placeBytes rest (a + 1) (s.placeByte a v)

/-- Place an instruction's bytes where the next step fetches it. -/
def State.placeAtFetch (s : State) (bytes : List Byte) : State :=
  State.placeBytes bytes s.readyToFetch.pc s.readyToFetch

end Sys2Proof.Machine
end

