-- ==== Sys2Proof/Machine/Step.lean ====
section
/-! DEFINITION. The step of the machine, and the placing of one instruction where it fetches next. -/
namespace Sys2Proof.Machine

/-- One step: one instruction, one interrupt service, or one idle M-cycle of the Halted state (`engineStep`). -/
def step (s : State) : Host.Outcome State Fault Refusal := engineStep s

/-- The state with an instruction of spec/opcode_table.json, numbered as the table numbers it, placed at the next fetch. -/
def State.withFetchWord (s : State) (nbits w : Nat) : State := s.placeAtFetch (tableWordBytes nbits w)

end Sys2Proof.Machine
end

