-- ==== Sys2Proof/Machine/Schedule.lean ====
section
/-! DEFINITION. The dispatch of an instruction to its schedule (R32, R141), for the M-cycle machine of Machine/System.lean. -/
namespace Sys2Proof.Machine

/-- The schedule of an instruction from the M-cycle of its last fetch on. PREFIX CB has none: it is no whole instruction (R123),
and the sequencer fetches its second byte before it decodes. -/
def schedule (i : Instr) : List MicroOp :=
  match i with
  | .nop => sched_nop
  | .ld_BC_nn nn => sched_ld_BC_nn nn
  | .ld_atBC_A => sched_ld_atBC_A
  | .inc_BC => sched_inc_BC
  | .inc_B => sched_inc_B
  | .dec_B => sched_dec_B
  | .ld_B_n n => sched_ld_B_n n
  | .rlca => sched_rlca
  | .ld_atnn_SP nn => sched_ld_atnn_SP nn
  | .add_HL_BC => sched_add_HL_BC
  | .ld_A_atBC => sched_ld_A_atBC
  | .dec_BC => sched_dec_BC
  | .inc_C => sched_inc_C
  | .dec_C => sched_dec_C
  | .ld_C_n n => sched_ld_C_n n
  | .rrca => sched_rrca
  | .stop => sched_stop
  | .ld_DE_nn nn => sched_ld_DE_nn nn
  | .ld_atDE_A => sched_ld_atDE_A
  | .inc_DE => sched_inc_DE
  | .inc_D => sched_inc_D
  | .dec_D => sched_dec_D
  | .ld_D_n n => sched_ld_D_n n
  | .rla => sched_rla
  | .jr_e e => sched_jr_e e
  | .add_HL_DE => sched_add_HL_DE
  | .ld_A_atDE => sched_ld_A_atDE
  | .dec_DE => sched_dec_DE
  | .inc_E => sched_inc_E
  | .dec_E => sched_dec_E
  | .ld_E_n n => sched_ld_E_n n
  | .rra => sched_rra
  | .jr_NZ_e e => sched_jr_NZ_e e
  | .ld_HL_nn nn => sched_ld_HL_nn nn
  | .ld_atHLinc_A => sched_ld_atHLinc_A
  | .inc_HL => sched_inc_HL
  | .inc_H => sched_inc_H
  | .dec_H => sched_dec_H
  | .ld_H_n n => sched_ld_H_n n
  | .daa => sched_daa
  | .jr_Z_e e => sched_jr_Z_e e
  | .add_HL_HL => sched_add_HL_HL
  | .ld_A_atHLinc => sched_ld_A_atHLinc
  | .dec_HL => sched_dec_HL
  | .inc_L => sched_inc_L
  | .dec_L => sched_dec_L
  | .ld_L_n n => sched_ld_L_n n
  | .cpl => sched_cpl
  | .jr_NC_e e => sched_jr_NC_e e
  | .ld_SP_nn nn => sched_ld_SP_nn nn
  | .ld_atHLdec_A => sched_ld_atHLdec_A
  | .inc_SP => sched_inc_SP
  | .inc_atHL => sched_inc_atHL
  | .dec_atHL => sched_dec_atHL
  | .ld_atHL_n n => sched_ld_atHL_n n
  | .scf => sched_scf
  | .jr_C_e e => sched_jr_C_e e
  | .add_HL_SP => sched_add_HL_SP
  | .ld_A_atHLdec => sched_ld_A_atHLdec
  | .dec_SP => sched_dec_SP
  | .inc_A => sched_inc_A
  | .dec_A => sched_dec_A
  | .ld_A_n n => sched_ld_A_n n
  | .ccf => sched_ccf
  | .ld_B_B => sched_ld_B_B
  | .ld_B_C => sched_ld_B_C
  | .ld_B_D => sched_ld_B_D
  | .ld_B_E => sched_ld_B_E
  | .ld_B_H => sched_ld_B_H
  | .ld_B_L => sched_ld_B_L
  | .ld_B_atHL => sched_ld_B_atHL
  | .ld_B_A => sched_ld_B_A
  | .ld_C_B => sched_ld_C_B
  | .ld_C_C => sched_ld_C_C
  | .ld_C_D => sched_ld_C_D
  | .ld_C_E => sched_ld_C_E
  | .ld_C_H => sched_ld_C_H
  | .ld_C_L => sched_ld_C_L
  | .ld_C_atHL => sched_ld_C_atHL
  | .ld_C_A => sched_ld_C_A
  | .ld_D_B => sched_ld_D_B
  | .ld_D_C => sched_ld_D_C
  | .ld_D_D => sched_ld_D_D
  | .ld_D_E => sched_ld_D_E
  | .ld_D_H => sched_ld_D_H
  | .ld_D_L => sched_ld_D_L
  | .ld_D_atHL => sched_ld_D_atHL
  | .ld_D_A => sched_ld_D_A
  | .ld_E_B => sched_ld_E_B
  | .ld_E_C => sched_ld_E_C
  | .ld_E_D => sched_ld_E_D
  | .ld_E_E => sched_ld_E_E
  | .ld_E_H => sched_ld_E_H
  | .ld_E_L => sched_ld_E_L
  | .ld_E_atHL => sched_ld_E_atHL
  | .ld_E_A => sched_ld_E_A
  | .ld_H_B => sched_ld_H_B
  | .ld_H_C => sched_ld_H_C
  | .ld_H_D => sched_ld_H_D
  | .ld_H_E => sched_ld_H_E
  | .ld_H_H => sched_ld_H_H
  | .ld_H_L => sched_ld_H_L
  | .ld_H_atHL => sched_ld_H_atHL
  | .ld_H_A => sched_ld_H_A
  | .ld_L_B => sched_ld_L_B
  | .ld_L_C => sched_ld_L_C
  | .ld_L_D => sched_ld_L_D
  | .ld_L_E => sched_ld_L_E
  | .ld_L_H => sched_ld_L_H
  | .ld_L_L => sched_ld_L_L
  | .ld_L_atHL => sched_ld_L_atHL
  | .ld_L_A => sched_ld_L_A
  | .ld_atHL_B => sched_ld_atHL_B
  | .ld_atHL_C => sched_ld_atHL_C
  | .ld_atHL_D => sched_ld_atHL_D
  | .ld_atHL_E => sched_ld_atHL_E
  | .ld_atHL_H => sched_ld_atHL_H
  | .ld_atHL_L => sched_ld_atHL_L
  | .halt => sched_halt
  | .ld_atHL_A => sched_ld_atHL_A
  | .ld_A_B => sched_ld_A_B
  | .ld_A_C => sched_ld_A_C
  | .ld_A_D => sched_ld_A_D
  | .ld_A_E => sched_ld_A_E
  | .ld_A_H => sched_ld_A_H
  | .ld_A_L => sched_ld_A_L
  | .ld_A_atHL => sched_ld_A_atHL
  | .ld_A_A => sched_ld_A_A
  | .add_A_B => sched_add_A_B
  | .add_A_C => sched_add_A_C
  | .add_A_D => sched_add_A_D
  | .add_A_E => sched_add_A_E
  | .add_A_H => sched_add_A_H
  | .add_A_L => sched_add_A_L
  | .add_A_atHL => sched_add_A_atHL
  | .add_A_A => sched_add_A_A
  | .adc_A_B => sched_adc_A_B
  | .adc_A_C => sched_adc_A_C
  | .adc_A_D => sched_adc_A_D
  | .adc_A_E => sched_adc_A_E
  | .adc_A_H => sched_adc_A_H
  | .adc_A_L => sched_adc_A_L
  | .adc_A_atHL => sched_adc_A_atHL
  | .adc_A_A => sched_adc_A_A
  | .sub_B => sched_sub_B
  | .sub_C => sched_sub_C
  | .sub_D => sched_sub_D
  | .sub_E => sched_sub_E
  | .sub_H => sched_sub_H
  | .sub_L => sched_sub_L
  | .sub_atHL => sched_sub_atHL
  | .sub_A => sched_sub_A
  | .sbc_A_B => sched_sbc_A_B
  | .sbc_A_C => sched_sbc_A_C
  | .sbc_A_D => sched_sbc_A_D
  | .sbc_A_E => sched_sbc_A_E
  | .sbc_A_H => sched_sbc_A_H
  | .sbc_A_L => sched_sbc_A_L
  | .sbc_A_atHL => sched_sbc_A_atHL
  | .sbc_A_A => sched_sbc_A_A
  | .and_B => sched_and_B
  | .and_C => sched_and_C
  | .and_D => sched_and_D
  | .and_E => sched_and_E
  | .and_H => sched_and_H
  | .and_L => sched_and_L
  | .and_atHL => sched_and_atHL
  | .and_A => sched_and_A
  | .xor_B => sched_xor_B
  | .xor_C => sched_xor_C
  | .xor_D => sched_xor_D
  | .xor_E => sched_xor_E
  | .xor_H => sched_xor_H
  | .xor_L => sched_xor_L
  | .xor_atHL => sched_xor_atHL
  | .xor_A => sched_xor_A
  | .or_B => sched_or_B
  | .or_C => sched_or_C
  | .or_D => sched_or_D
  | .or_E => sched_or_E
  | .or_H => sched_or_H
  | .or_L => sched_or_L
  | .or_atHL => sched_or_atHL
  | .or_A => sched_or_A
  | .cp_B => sched_cp_B
  | .cp_C => sched_cp_C
  | .cp_D => sched_cp_D
  | .cp_E => sched_cp_E
  | .cp_H => sched_cp_H
  | .cp_L => sched_cp_L
  | .cp_atHL => sched_cp_atHL
  | .cp_A => sched_cp_A
  | .ret_NZ => sched_ret_NZ
  | .pop_BC => sched_pop_BC
  | .jp_NZ_nn nn => sched_jp_NZ_nn nn
  | .jp_nn nn => sched_jp_nn nn
  | .call_NZ_nn nn => sched_call_NZ_nn nn
  | .push_BC => sched_push_BC
  | .add_A_n n => sched_add_A_n n
  | .rst_00 => sched_rst_00
  | .ret_Z => sched_ret_Z
  | .ret => sched_ret
  | .jp_Z_nn nn => sched_jp_Z_nn nn
  | .cbPrefix => []
  | .call_Z_nn nn => sched_call_Z_nn nn
  | .call_nn nn => sched_call_nn nn
  | .adc_A_n n => sched_adc_A_n n
  | .rst_08 => sched_rst_08
  | .ret_NC => sched_ret_NC
  | .pop_DE => sched_pop_DE
  | .jp_NC_nn nn => sched_jp_NC_nn nn
  | .undef_D3 => sched_undef_D3
  | .call_NC_nn nn => sched_call_NC_nn nn
  | .push_DE => sched_push_DE
  | .sub_n n => sched_sub_n n
  | .rst_10 => sched_rst_10
  | .ret_C => sched_ret_C
  | .reti => sched_reti
  | .jp_C_nn nn => sched_jp_C_nn nn
  | .undef_DB => sched_undef_DB
  | .call_C_nn nn => sched_call_C_nn nn
  | .undef_DD => sched_undef_DD
  | .sbc_A_n n => sched_sbc_A_n n
  | .rst_18 => sched_rst_18
  | .ldh_atn_A n => sched_ldh_atn_A n
  | .pop_HL => sched_pop_HL
  | .ld_atC_A => sched_ld_atC_A
  | .undef_E3 => sched_undef_E3
  | .undef_E4 => sched_undef_E4
  | .push_HL => sched_push_HL
  | .and_n n => sched_and_n n
  | .rst_20 => sched_rst_20
  | .add_SP_e e => sched_add_SP_e e
  | .jp_HL => sched_jp_HL
  | .ld_atnn_A nn => sched_ld_atnn_A nn
  | .undef_EB => sched_undef_EB
  | .undef_EC => sched_undef_EC
  | .undef_ED => sched_undef_ED
  | .xor_n n => sched_xor_n n
  | .rst_28 => sched_rst_28
  | .ldh_A_atn n => sched_ldh_A_atn n
  | .pop_AF => sched_pop_AF
  | .ld_A_atC => sched_ld_A_atC
  | .di => sched_di
  | .undef_F4 => sched_undef_F4
  | .push_AF => sched_push_AF
  | .or_n n => sched_or_n n
  | .rst_30 => sched_rst_30
  | .ld_HL_SPe e => sched_ld_HL_SPe e
  | .ld_SP_HL => sched_ld_SP_HL
  | .ld_A_atnn nn => sched_ld_A_atnn nn
  | .ei => sched_ei
  | .undef_FC => sched_undef_FC
  | .undef_FD => sched_undef_FD
  | .cp_n n => sched_cp_n n
  | .rst_38 => sched_rst_38
  | .rlc_B => sched_rlc_B
  | .rlc_C => sched_rlc_C
  | .rlc_D => sched_rlc_D
  | .rlc_E => sched_rlc_E
  | .rlc_H => sched_rlc_H
  | .rlc_L => sched_rlc_L
  | .rlc_atHL => sched_rlc_atHL
  | .rlc_A => sched_rlc_A
  | .rrc_B => sched_rrc_B
  | .rrc_C => sched_rrc_C
  | .rrc_D => sched_rrc_D
  | .rrc_E => sched_rrc_E
  | .rrc_H => sched_rrc_H
  | .rrc_L => sched_rrc_L
  | .rrc_atHL => sched_rrc_atHL
  | .rrc_A => sched_rrc_A
  | .rl_B => sched_rl_B
  | .rl_C => sched_rl_C
  | .rl_D => sched_rl_D
  | .rl_E => sched_rl_E
  | .rl_H => sched_rl_H
  | .rl_L => sched_rl_L
  | .rl_atHL => sched_rl_atHL
  | .rl_A => sched_rl_A
  | .rr_B => sched_rr_B
  | .rr_C => sched_rr_C
  | .rr_D => sched_rr_D
  | .rr_E => sched_rr_E
  | .rr_H => sched_rr_H
  | .rr_L => sched_rr_L
  | .rr_atHL => sched_rr_atHL
  | .rr_A => sched_rr_A
  | .sla_B => sched_sla_B
  | .sla_C => sched_sla_C
  | .sla_D => sched_sla_D
  | .sla_E => sched_sla_E
  | .sla_H => sched_sla_H
  | .sla_L => sched_sla_L
  | .sla_atHL => sched_sla_atHL
  | .sla_A => sched_sla_A
  | .sra_B => sched_sra_B
  | .sra_C => sched_sra_C
  | .sra_D => sched_sra_D
  | .sra_E => sched_sra_E
  | .sra_H => sched_sra_H
  | .sra_L => sched_sra_L
  | .sra_atHL => sched_sra_atHL
  | .sra_A => sched_sra_A
  | .swap_B => sched_swap_B
  | .swap_C => sched_swap_C
  | .swap_D => sched_swap_D
  | .swap_E => sched_swap_E
  | .swap_H => sched_swap_H
  | .swap_L => sched_swap_L
  | .swap_atHL => sched_swap_atHL
  | .swap_A => sched_swap_A
  | .srl_B => sched_srl_B
  | .srl_C => sched_srl_C
  | .srl_D => sched_srl_D
  | .srl_E => sched_srl_E
  | .srl_H => sched_srl_H
  | .srl_L => sched_srl_L
  | .srl_atHL => sched_srl_atHL
  | .srl_A => sched_srl_A
  | .bit_0_B => sched_bit_0_B
  | .bit_0_C => sched_bit_0_C
  | .bit_0_D => sched_bit_0_D
  | .bit_0_E => sched_bit_0_E
  | .bit_0_H => sched_bit_0_H
  | .bit_0_L => sched_bit_0_L
  | .bit_0_atHL => sched_bit_0_atHL
  | .bit_0_A => sched_bit_0_A
  | .bit_1_B => sched_bit_1_B
  | .bit_1_C => sched_bit_1_C
  | .bit_1_D => sched_bit_1_D
  | .bit_1_E => sched_bit_1_E
  | .bit_1_H => sched_bit_1_H
  | .bit_1_L => sched_bit_1_L
  | .bit_1_atHL => sched_bit_1_atHL
  | .bit_1_A => sched_bit_1_A
  | .bit_2_B => sched_bit_2_B
  | .bit_2_C => sched_bit_2_C
  | .bit_2_D => sched_bit_2_D
  | .bit_2_E => sched_bit_2_E
  | .bit_2_H => sched_bit_2_H
  | .bit_2_L => sched_bit_2_L
  | .bit_2_atHL => sched_bit_2_atHL
  | .bit_2_A => sched_bit_2_A
  | .bit_3_B => sched_bit_3_B
  | .bit_3_C => sched_bit_3_C
  | .bit_3_D => sched_bit_3_D
  | .bit_3_E => sched_bit_3_E
  | .bit_3_H => sched_bit_3_H
  | .bit_3_L => sched_bit_3_L
  | .bit_3_atHL => sched_bit_3_atHL
  | .bit_3_A => sched_bit_3_A
  | .bit_4_B => sched_bit_4_B
  | .bit_4_C => sched_bit_4_C
  | .bit_4_D => sched_bit_4_D
  | .bit_4_E => sched_bit_4_E
  | .bit_4_H => sched_bit_4_H
  | .bit_4_L => sched_bit_4_L
  | .bit_4_atHL => sched_bit_4_atHL
  | .bit_4_A => sched_bit_4_A
  | .bit_5_B => sched_bit_5_B
  | .bit_5_C => sched_bit_5_C
  | .bit_5_D => sched_bit_5_D
  | .bit_5_E => sched_bit_5_E
  | .bit_5_H => sched_bit_5_H
  | .bit_5_L => sched_bit_5_L
  | .bit_5_atHL => sched_bit_5_atHL
  | .bit_5_A => sched_bit_5_A
  | .bit_6_B => sched_bit_6_B
  | .bit_6_C => sched_bit_6_C
  | .bit_6_D => sched_bit_6_D
  | .bit_6_E => sched_bit_6_E
  | .bit_6_H => sched_bit_6_H
  | .bit_6_L => sched_bit_6_L
  | .bit_6_atHL => sched_bit_6_atHL
  | .bit_6_A => sched_bit_6_A
  | .bit_7_B => sched_bit_7_B
  | .bit_7_C => sched_bit_7_C
  | .bit_7_D => sched_bit_7_D
  | .bit_7_E => sched_bit_7_E
  | .bit_7_H => sched_bit_7_H
  | .bit_7_L => sched_bit_7_L
  | .bit_7_atHL => sched_bit_7_atHL
  | .bit_7_A => sched_bit_7_A
  | .res_0_B => sched_res_0_B
  | .res_0_C => sched_res_0_C
  | .res_0_D => sched_res_0_D
  | .res_0_E => sched_res_0_E
  | .res_0_H => sched_res_0_H
  | .res_0_L => sched_res_0_L
  | .res_0_atHL => sched_res_0_atHL
  | .res_0_A => sched_res_0_A
  | .res_1_B => sched_res_1_B
  | .res_1_C => sched_res_1_C
  | .res_1_D => sched_res_1_D
  | .res_1_E => sched_res_1_E
  | .res_1_H => sched_res_1_H
  | .res_1_L => sched_res_1_L
  | .res_1_atHL => sched_res_1_atHL
  | .res_1_A => sched_res_1_A
  | .res_2_B => sched_res_2_B
  | .res_2_C => sched_res_2_C
  | .res_2_D => sched_res_2_D
  | .res_2_E => sched_res_2_E
  | .res_2_H => sched_res_2_H
  | .res_2_L => sched_res_2_L
  | .res_2_atHL => sched_res_2_atHL
  | .res_2_A => sched_res_2_A
  | .res_3_B => sched_res_3_B
  | .res_3_C => sched_res_3_C
  | .res_3_D => sched_res_3_D
  | .res_3_E => sched_res_3_E
  | .res_3_H => sched_res_3_H
  | .res_3_L => sched_res_3_L
  | .res_3_atHL => sched_res_3_atHL
  | .res_3_A => sched_res_3_A
  | .res_4_B => sched_res_4_B
  | .res_4_C => sched_res_4_C
  | .res_4_D => sched_res_4_D
  | .res_4_E => sched_res_4_E
  | .res_4_H => sched_res_4_H
  | .res_4_L => sched_res_4_L
  | .res_4_atHL => sched_res_4_atHL
  | .res_4_A => sched_res_4_A
  | .res_5_B => sched_res_5_B
  | .res_5_C => sched_res_5_C
  | .res_5_D => sched_res_5_D
  | .res_5_E => sched_res_5_E
  | .res_5_H => sched_res_5_H
  | .res_5_L => sched_res_5_L
  | .res_5_atHL => sched_res_5_atHL
  | .res_5_A => sched_res_5_A
  | .res_6_B => sched_res_6_B
  | .res_6_C => sched_res_6_C
  | .res_6_D => sched_res_6_D
  | .res_6_E => sched_res_6_E
  | .res_6_H => sched_res_6_H
  | .res_6_L => sched_res_6_L
  | .res_6_atHL => sched_res_6_atHL
  | .res_6_A => sched_res_6_A
  | .res_7_B => sched_res_7_B
  | .res_7_C => sched_res_7_C
  | .res_7_D => sched_res_7_D
  | .res_7_E => sched_res_7_E
  | .res_7_H => sched_res_7_H
  | .res_7_L => sched_res_7_L
  | .res_7_atHL => sched_res_7_atHL
  | .res_7_A => sched_res_7_A
  | .set_0_B => sched_set_0_B
  | .set_0_C => sched_set_0_C
  | .set_0_D => sched_set_0_D
  | .set_0_E => sched_set_0_E
  | .set_0_H => sched_set_0_H
  | .set_0_L => sched_set_0_L
  | .set_0_atHL => sched_set_0_atHL
  | .set_0_A => sched_set_0_A
  | .set_1_B => sched_set_1_B
  | .set_1_C => sched_set_1_C
  | .set_1_D => sched_set_1_D
  | .set_1_E => sched_set_1_E
  | .set_1_H => sched_set_1_H
  | .set_1_L => sched_set_1_L
  | .set_1_atHL => sched_set_1_atHL
  | .set_1_A => sched_set_1_A
  | .set_2_B => sched_set_2_B
  | .set_2_C => sched_set_2_C
  | .set_2_D => sched_set_2_D
  | .set_2_E => sched_set_2_E
  | .set_2_H => sched_set_2_H
  | .set_2_L => sched_set_2_L
  | .set_2_atHL => sched_set_2_atHL
  | .set_2_A => sched_set_2_A
  | .set_3_B => sched_set_3_B
  | .set_3_C => sched_set_3_C
  | .set_3_D => sched_set_3_D
  | .set_3_E => sched_set_3_E
  | .set_3_H => sched_set_3_H
  | .set_3_L => sched_set_3_L
  | .set_3_atHL => sched_set_3_atHL
  | .set_3_A => sched_set_3_A
  | .set_4_B => sched_set_4_B
  | .set_4_C => sched_set_4_C
  | .set_4_D => sched_set_4_D
  | .set_4_E => sched_set_4_E
  | .set_4_H => sched_set_4_H
  | .set_4_L => sched_set_4_L
  | .set_4_atHL => sched_set_4_atHL
  | .set_4_A => sched_set_4_A
  | .set_5_B => sched_set_5_B
  | .set_5_C => sched_set_5_C
  | .set_5_D => sched_set_5_D
  | .set_5_E => sched_set_5_E
  | .set_5_H => sched_set_5_H
  | .set_5_L => sched_set_5_L
  | .set_5_atHL => sched_set_5_atHL
  | .set_5_A => sched_set_5_A
  | .set_6_B => sched_set_6_B
  | .set_6_C => sched_set_6_C
  | .set_6_D => sched_set_6_D
  | .set_6_E => sched_set_6_E
  | .set_6_H => sched_set_6_H
  | .set_6_L => sched_set_6_L
  | .set_6_atHL => sched_set_6_atHL
  | .set_6_A => sched_set_6_A
  | .set_7_B => sched_set_7_B
  | .set_7_C => sched_set_7_C
  | .set_7_D => sched_set_7_D
  | .set_7_E => sched_set_7_E
  | .set_7_H => sched_set_7_H
  | .set_7_L => sched_set_7_L
  | .set_7_atHL => sched_set_7_atHL
  | .set_7_A => sched_set_7_A

end Sys2Proof.Machine
end

