-- ==== Sys2Proof/Machine/System.lean ====
section
/-! DEFINITION. The core's own step, one M-cycle at a time (40_execution_engine.md rules R130 to R143): `systemStep`. It runs the
same schedules and operations as `step`, which is this machine run to the next instruction boundary (`runToBoundary`). -/
namespace Sys2Proof.Machine

/-- Run one M-cycle of the work in flight and keep the rest, if any (R131, R135). -/
def State.runCycle (s : State) (kind : WorkKind) (m : MicroOp) (rest : List MicroOp) : State :=
  let s := m.run s
  if m.ends s then s.finishWork kind
  else
    match rest with
    | [] => s.finishWork kind
    | next :: rest => { s with inflight := .running kind next rest }

/-- The work of an instruction in the M-cycle of its last fetch (R137, R140). -/
def State.beginWork (s : State) (bytes : List Byte) : Result :=
  match decodeFetched bytes with
  | .error e => .refused (.fetch e)
  | .ok (i, _) =>
    match schedule i, s.params.illegalOpcodes with
    | .diagnose op :: _, .refuse => .refused (.undefinedOpcode op)
    | [], _ => .next (s.finishWork .instruction)
    | m :: rest, _ => .next (s.runCycle .instruction m rest)

/-- `cpu_step()` at an instruction boundary (R131 to R133, R137). -/
def State.boundaryCycle (s : State) : Result :=
  if s.ime ∧ s.pending ≠ 0 then
    .next (State.runCycle { s with halted := false } .service .idle [.idle, .pushPcHi, .pushPcLo, .vector])
  else if s.halted ∧ s.pending = 0 then .next s
  else
    let (op, s) := State.fetchOpcode { s with halted := false }
    if fetchedLength op = 1 then s.beginWork [op] else .next { s with inflight := .operand op }

/-- `cpu_step()`: the engine's one M-cycle (R131). -/
def State.cpuStep (s : State) : Result :=
  match s.inflight with
  | .none => s.boundaryCycle
  | .operand op =>
    let (b, s) := s.fetchByte op
    if fetchedLength op = 2 then s.beginWork [op, b] else .next { s.latchLo b with inflight := .operand2 op b }
  | .operand2 op lo =>
    let (bytes, s) := s.fetchThird op lo
    s.beginWork bytes
  | .running kind m rest => .next (s.runCycle kind m rest)

/-- `system_step()`: the engine's M-cycle, then the display controller, the timer, the DMA controller and the clock (R130). -/
def systemStep (s : State) : Result :=
  if s.params.accepted then onNext s.cpuStep State.tick else .refused (.romSize s.params.romSize)

/-- System steps until the sequencer's queue is empty, at most `n` of them. -/
def runToBoundary : Nat → State → Result
  | 0, s => .next s
  | n + 1, s =>
    match systemStep s with
    | .next t => if t.inflight = .none then .next t else runToBoundary n t
    | r => r

/-- The engine states the source names (R34). -/
inductive EngineState
  | fetching | executingMicroOps | halted | servicingInterrupt
deriving DecidableEq, Repr

/-- The engine state, a function of `halted` and the work in flight (R34). -/
def State.engineState (s : State) : EngineState :=
  match s.inflight with
  | .running .service _ _ => .servicingInterrupt
  | .running .instruction _ _ => .executingMicroOps
  | .operand _ => .executingMicroOps
  | .operand2 _ _ => .executingMicroOps
  | .none => if s.halted then .halted else .fetching

end Sys2Proof.Machine
end

