-- ==== Sys2Proof/Safety.lean ====
section
/-! DEFINITION. What counts as a well-formed state, in the terms the statements use: every field in the range 10_state.md gives
it (R150), the memory arrays canonical, the timer's and the display controller's standing relations. -/
namespace Sys2Proof.Machine

/-- The memory arrays are canonical and within their sizes (R45). -/
def State.MemoryOk (s : State) : Prop :=
  (s.vram.wf ∧ Memory.within 0x2000 s.vram) ∧ (s.wram.wf ∧ Memory.within 0x2000 s.wram) ∧
  (s.oam.wf ∧ Memory.within 160 s.oam) ∧ (s.hram.wf ∧ Memory.within 127 s.hram) ∧
  (s.eram.wf ∧ Memory.within s.params.eramSize s.eram)

/-- The EI delay is in 0..2 (R29), and armed only while IME = 0 (R146). -/
def State.EngineOk (s : State) : Prop := s.eiDelay ≤ 2 ∧ (0 < s.eiDelay → s.ime = false)

/-- The latch holds the sampled bit, the reload delay is in 0..4 (R342), and TIMA reads 0x00 during it (R333). -/
def Timer.Ok (t : Timer) : Prop :=
  t.lastSampledBit = t.sampled ∧ t.reloadDelay ≤ 4 ∧ (0 < t.reloadDelay → t.tima = 0)

/-- A frame buffer is 144 lines of 160 pixels (R368). -/
def FrameOk (f : FrameBuffer) : Prop := f.length = 144 ∧ ∀ line ∈ f, line.length = 160

/-- LY and the dot are in range (R40, R43), the coincidence flag is `LY = LYC` (R358), and the frame buffer has its shape.
Every bus write and every dot keeps this. -/
def Lcd.RangeOk (d : Lcd) : Prop :=
  d.ly.toNat < 154 ∧ d.dot < 456 ∧ d.coincidence = decide (d.ly = d.lyc) ∧ FrameOk d.frame

/-- The mode is the one of LY and the dot (R351, R352); with the display disabled, LY = 0, dot = 0 and HBlank (R361). The dots of
every system step restore this. -/
def Lcd.ModeOk (d : Lcd) : Prop :=
  if d.enabled then d.mode = modeOf d.ly d.dot else d.ly = 0 ∧ d.dot = 0 ∧ d.mode = .hblank

/-- The DMA controller's fields are in range (R46), and an active transfer has bytes left to copy (R96). -/
def Dma.Ok (d : Dma) : Prop := d.acc < 4 ∧ d.index ≤ 160 ∧ (d.active → d.index < 160) ∧ loByte d.source = 0

/-- `bankLow` is never 0 (R48). -/
def Mbc1.Ok (m : Mbc1) : Prop := m.bankLow ≠ 0

/-- Every frame handed to the host has its shape (R369). -/
def State.FramesOk (s : State) : Prop := ∀ f ∈ s.frames, FrameOk f

/-- What every M-cycle's work and every peripheral tick keeps. -/
structure State.CoreOk (s : State) : Prop where
  memory : s.MemoryOk
  engine : s.EngineOk
  timer : s.timer.Ok
  range : s.lcd.RangeOk
  dma : s.dma.Ok
  mbc1 : s.mbc1.Ok
  frames : s.FramesOk

/-- The invariant of an instruction boundary. -/
structure State.Ok (s : State) : Prop where
  core : s.CoreOk
  mode : s.lcd.ModeOk
  idle : s.inflight = .none

end Sys2Proof.Machine
end

