-- ==== Sys2Proof/Certificates/Slice0/Obligations.lean ====
section
/-! DEFINITION. The statements for the provers, from the numbered rules of spec/. The vocabulary they are written in stands first,
under `Sys2Proof.Claim`: it is written from the rules again, not taken from the meanings. A result statement says with one
equation what the instruction answers (completion), what it writes (result) and that nothing else changes (frame): every field
it does not name keeps its value. Where an instruction has further M-cycles after its last fetch, `s.tick` is what the
peripherals do between two of them (R130), and `TickLeavesTheEngineAlone` says what that leaves unchanged. -/

namespace Sys2Proof.Claim
open Sys2Proof Sys2Proof.Machine

/-! ## Vocabulary: encoding -/

/-- The opcodes of three bytes in the map of R119. -/
def threeByteOpcodes : List Byte :=
  [0x01, 0x08, 0x11, 0x21, 0x31, 0xC2, 0xC3, 0xC4, 0xCA, 0xCC, 0xCD, 0xD2, 0xD4, 0xDA, 0xDC, 0xEA, 0xFA]

/-- The opcodes of two bytes in the map of R119, the CB byte (R123) among them. -/
def twoByteOpcodes : List Byte :=
  [0x06, 0x0E, 0x16, 0x1E, 0x26, 0x2E, 0x36, 0x3E, 0x18, 0x20, 0x28, 0x30, 0x38, 0xC6, 0xCE, 0xD6, 0xDE, 0xE6, 0xEE, 0xF6,
   0xFE, 0xE0, 0xE8, 0xF0, 0xF8, 0xCB]

/-- The number of an `r` field (R113), an ALU field `o` (R116), a CB field `o` (R117), the pair fields `p` (R114) and a condition
field `cc` (R115). -/
def rField (r : R8) : Nat :=
  match r with
  | .b => 0
  | .c => 1
  | .d => 2
  | .e => 3
  | .h => 4
  | .l => 5
  | .a => 7

def aluField (o : AluOp) : Nat :=
  match o with
  | .add => 0
  | .adc => 1
  | .sub => 2
  | .sbc => 3
  | .and => 4
  | .xor => 5
  | .or => 6
  | .cp => 7

def cbField (o : CbOp) : Nat :=
  match o with
  | .rlc => 0
  | .rrc => 1
  | .rl => 2
  | .rr => 3
  | .sla => 4
  | .sra => 5
  | .swap => 6
  | .srl => 7

def pairField (p : Pair) : Nat :=
  match p with
  | .bc => 0
  | .de => 1
  | .hl => 2
  | .sp => 3

def stackField (p : StackPair) : Nat :=
  match p with
  | .bc => 0
  | .de => 1
  | .hl => 2
  | .af => 3

def ccField (cc : Cond) : Nat :=
  match cc with
  | .nz => 0
  | .z => 1
  | .nc => 2
  | .c => 3

/-- An opcode byte by its number. -/
def opcode (n : Nat) : Byte := BitVec.ofNat 8 n

/-- The bytes are the instruction's whole encoding, under both modes of STOP. -/
def EncodedAs (i : Instr) (bytes : List Byte) : Prop :=
  ∀ (mode : StopMode) (ignored : Byte), decode mode bytes = .ok (i, []) ∧ encode mode ignored i = bytes

/-- How many bytes the engine fetches for the instruction a byte begins (R139, R140; of STOP it fetches 0x10 alone, R148). -/
def fetchedOf (op : Byte) : Nat := if op ∈ threeByteOpcodes then 3 else if op ∈ twoByteOpcodes then 2 else 1

/-- The length of the instruction a byte begins (R110, R111, R123): STOP is 2 bytes under `SKIP1`. -/
def lengthOf (mode : StopMode) (op : Byte) : Nat := if op = 0x10 ∧ mode = .skip1 then 2 else fetchedOf op

/-! ## Vocabulary: memory -/

/-- The addresses of RAM that only stores change: VRAM, work RAM and its mirror, HRAM; and OAM, which a transfer writes too. -/
def isRam (a : Word) : Prop :=
  (0x8000 ≤ a.toNat ∧ a.toNat ≤ 0x9FFF) ∨ (0xC000 ≤ a.toNat ∧ a.toNat ≤ 0xFE9F) ∨ (0xFF80 ≤ a.toNat ∧ a.toNat ≤ 0xFFFE)

def isOam (a : Word) : Prop := 0xFE00 ≤ a.toNat ∧ a.toNat ≤ 0xFE9F

/-- Two addresses of one RAM byte: equal, or the mirror of work RAM (R68). -/
def sameByte (a b : Word) : Prop :=
  a = b ∨ (0xC000 ≤ a.toNat ∧ a.toNat ≤ 0xFDFF ∧ 0xC000 ≤ b.toNat ∧ b.toNat ≤ 0xFDFF ∧ a.toNat % 0x2000 = b.toNat % 0x2000)

/-! ## Vocabulary: steps -/

/-- The parameters have a meaning and nothing is in flight: the state stands at an instruction boundary (R136). -/
def AtBoundary (s : State) : Prop := s.params.accepted = true ∧ s.inflight = .none

/-- An interrupt is about to be serviced (R132). -/
def InterruptDue (s : State) : Prop := s.ime = true ∧ s.ie &&& s.iflag ≠ 0

/-- The engine stays halted (R133). -/
def StaysHalted (s : State) : Prop := s.halted = true ∧ s.ie &&& s.iflag = 0

/-- At an instruction boundary at which the engine fetches (R131). -/
def Fetches (s : State) : Prop := AtBoundary s ∧ ¬ InterruptDue s ∧ ¬ StaysHalted s

/-- After the opcode fetch (R137): PC is advanced unless the HALT bug suppresses it, and the flag is used up. The address in
`latches.opAddr` is the model's own (log entry 7). -/
def opcodeFetched (s : State) : State :=
  { s with halted := false, pc := if s.haltBug then s.pc else s.pc + 1, haltBug := false,
           latches := { s.latches with opAddr := s.pc } }

/-- After the fetch of the byte behind the opcode, one M-cycle later (R139, R140): an operand byte is latched in `t`, the CB
opcode is not. -/
def byteFetched (op : Byte) (s : State) : State :=
  { s.tick with pc := s.pc + 1,
                latches := { s.latches with t := if op = 0xCB then s.latches.t else s.tick.memRead s.pc } }

/-- After the fetch of the second byte of `nn` (R139): the first is in `lo`, the second in `hi`. -/
def wordFetched (op : Byte) (s : State) : State :=
  let lo := s.tick.memRead s.pc
  let u := { byteFetched op s with latches := { (byteFetched op s).latches with lo := lo } }
  let hi := u.tick.memRead u.pc
  { u.tick with pc := u.pc + 1, latches := { u.latches with t := hi, hi := hi } }

/-- What the step makes of an instruction's outcome: the EI delay advances and the peripherals' part of its last system step
follows (R130, R131, R134). -/
def completed (r : Result) : Result :=
  match r with
  | .next t => .next t.eiTick.tick
  | .fault e => .fault e
  | .refused e => .refused e

end Sys2Proof.Claim

open Sys2Proof Sys2Proof.Machine

/-! ## Encoding -/

/-- R111, R112, R119, R120: decoding the bytes of an instruction gives it back, with every operand value, whatever bytes follow, under
both modes of STOP (the spec's decision D11) and whatever its ignored byte is; and so of the bytes the engine fetches of it. The PREFIX CB row (0xCB alone) is no
whole instruction (R123), which is log entry 11. -/
def Obligations.DecodeAfterEncodeIsTheInstruction : Prop :=
  ∀ (i : Instr) (rest : List Byte), i.wellFormed = true →
    (∀ (mode : StopMode) (ignored : Byte), decode mode (encode mode ignored i ++ rest) = .ok (i, rest)) ∧
    decodeFetched (encodeFetched i ++ rest) = .ok (i, rest)

/-- Every sequence of bytes has one meaning: what decodes to an instruction is its encoding (R119, R120, R121, R125), for STOP under
`SKIP1` with some ignored byte (R111, the spec's decision D11); and so of fetched bytes. -/
def Obligations.EncodeAfterDecodeIsTheBytes : Prop :=
  ∀ (bytes : List Byte) (i : Instr) (rest : List Byte), i.wellFormed = true →
    (∀ mode, decode mode bytes = .ok (i, rest) → ∃ ignored, bytes = encode mode ignored i ++ rest) ∧
    (decodeFetched bytes = .ok (i, rest) → bytes = encodeFetched i ++ rest)

/-- R110, R111, R123, R141: the length is a function of the first byte alone (and of the parameter `STOP_MODE`, for STOP: 2 under `SKIP1`,
1 under `NOP1`), and every first byte selects an instruction, as soon as as many bytes are there as its length says. The first
`fetchedOf` bytes, which are those the engine reads, say which instruction it is: all but the ignored byte of STOP, which R148 (the spec's
decision D11) passes over without a bus access. -/
def Obligations.EveryOpcodeDecodesByItsLength : Prop :=
  ∀ (mode : StopMode) (op : Byte) (rest : List Byte), Claim.lengthOf mode op ≤ rest.length + 1 →
    ∃ i, i.wellFormed = true ∧
      decode mode (op :: rest) = .ok (i, rest.drop (Claim.lengthOf mode op - 1)) ∧
      (∀ ignored, (encode mode ignored i).length = Claim.lengthOf mode op) ∧
      decodeFetched (op :: rest.take (Claim.fetchedOf op - 1)) = .ok (i, []) ∧
      (encodeFetched i).length = Claim.fetchedOf op

/-- Words written out from the maps of R119 to R121, one or more of each family, and what they stand for; STOP takes the
byte after it under `SKIP1` and leaves it under `NOP1` (the spec's decision D11). -/
def Obligations.WordsDecodeAsTheMapsSay : Prop :=
  decode .skip1 [0b00000000] = .ok (.nop, []) ∧
  decode .skip1 [0b01000001] = .ok (.ld_B_C, []) ∧
  decode .skip1 [0b00111110, 0x42] = .ok (.ld_A_n 0x42, []) ∧
  decode .skip1 [0b00100010] = .ok (.ld_atHLinc_A, []) ∧
  decode .skip1 [0b11101010, 0x00, 0xC0] = .ok (.ld_atnn_A 0xC000, []) ∧
  decode .skip1 [0b00110001, 0xFE, 0xFF] = .ok (.ld_SP_nn 0xFFFE, []) ∧
  decode .skip1 [0b11110001] = .ok (.pop_AF, []) ∧
  decode .skip1 [0b10100110] = .ok (.and_atHL, []) ∧
  decode .skip1 [0b11111110, 0x90] = .ok (.cp_n 0x90, []) ∧
  decode .skip1 [0b00110101] = .ok (.dec_atHL, []) ∧
  decode .skip1 [0b00111001] = .ok (.add_HL_SP, []) ∧
  decode .skip1 [0b11101000, 0xF8] = .ok (.add_SP_e 0xF8, []) ∧
  decode .skip1 [0b00010111] = .ok (.rla, []) ∧
  decode .skip1 [0b11001011, 0b00110111] = .ok (.swap_A, []) ∧
  decode .skip1 [0b11001011, 0b01111100] = .ok (.bit_7_H, []) ∧
  decode .skip1 [0b11001011, 0b11011110] = .ok (.set_3_atHL, []) ∧
  decode .skip1 [0b00101000, 0xFE] = .ok (.jr_Z_e 0xFE, []) ∧
  decode .skip1 [0b11010100, 0x34, 0x12] = .ok (.call_NC_nn 0x1234, []) ∧
  decode .skip1 [0b11101111] = .ok (.rst_28, []) ∧
  decode .skip1 [0b11011001] = .ok (.reti, []) ∧
  decode .skip1 [0b01110110] = .ok (.halt, []) ∧
  decode .skip1 [0b00010000, 0xFF] = .ok (.stop, []) ∧
  decode .nop1 [0b00010000, 0xFF] = .ok (.stop, [0xFF]) ∧
  decode .skip1 [0b11010011] = .ok (.undef_D3, [])

/-! ## Steps -/

/-- A step runs the decoded instruction (R131, R137, R139, R140, R141): at a boundary at which the engine fetches, the byte at PC is
the opcode, the operand bytes are read one M-cycle each from the addresses after it, PC moves past each byte, and the step is `exec` of
the instruction those bytes decode to, completed. The address kept in `latches.opAddr` is the model's own (log entry 7), and
that an operand fetch is never suppressed by the HALT bug, and that the CB opcode is fetched in M2, are the spec's decisions D7 and
D12. -/
def Obligations.StepRunsTheDecodedInstruction : Prop :=
  ∀ (s : State), Claim.Fetches s →
    let op := s.memRead s.pc
    let s1 := Claim.opcodeFetched s
    (∀ i, decodeFetched [op] = .ok (i, []) → Claim.fetchedOf op = 1 → step s = Claim.completed (exec i s1)) ∧
    (∀ i, decodeFetched [op, s1.tick.memRead s1.pc] = .ok (i, []) → Claim.fetchedOf op = 2 →
      step s = Claim.completed (exec i (Claim.byteFetched op s1))) ∧
    (∀ i, decodeFetched [op, s1.tick.memRead s1.pc, (Claim.wordFetched op s1).latches.hi] = .ok (i, []) → Claim.fetchedOf op = 3 →
      step s = Claim.completed (exec i (Claim.wordFetched op s1)))

/-- R133, with the spec's decision D6 for the wake: a halted engine with nothing pending spends the step idle, which changes nothing but
what the peripherals do; with an interrupt pending and IME = 0 it leaves the Halted state and runs the next instruction in the same
step. -/
def Obligations.HaltedEngineIdlesUntilPending : Prop :=
  ∀ (s : State), Claim.AtBoundary s → s.halted = true →
    (s.ie &&& s.iflag = 0 → step s = .next s.tick) ∧
    (s.ie &&& s.iflag ≠ 0 → s.ime = false → step s = step { s with halted := false })

namespace Sys2Proof.Claim
open Sys2Proof Sys2Proof.Machine

/-- M1 to M4 of interrupt service, each followed by its tick: two idle cycles, then PC pushed high byte first (R310). -/
def pcSaved (s : State) : State :=
  let a := (State.tick { s with halted := false }).tick
  let b := State.tick (State.memWrite { a with sp := s.sp - 1 } (s.sp - 1) (hiByte s.pc))
  State.tick (State.memWrite { b with sp := s.sp - 2 } (s.sp - 2) (loByte s.pc))

end Sys2Proof.Claim

/-- R310, R304, R311, R312: interrupt service takes five M-cycles. It saves PC on the stack and nothing else, and in M5 goes to the vector of
the lowest bit pending then, clears that IF bit only, IME and `halted`; with nothing pending any more it goes to 0x0000 and
clears no IF bit. (That the vector is chosen in M5, and the 0x0000, are the spec's decision D8; that M1 is the detecting step is D9.) -/
def Obligations.InterruptServiceSavesPcAndVectors : Prop :=
  ∀ (s : State), Claim.AtBoundary s → Claim.InterruptDue s →
    let u := Claim.pcSaved s
    let p := u.ie &&& u.iflag
    (∀ i : Fin 5, p.getLsbD i = true → (∀ j : Fin 5, j < i → p.getLsbD j = false) →
      step s = .next (State.tick { u with pc := BitVec.ofNat 16 (0x0040 + 8 * i.val), iflag := u.iflag &&& ~~~(1#5 <<< i.val),
                                          ime := false, halted := false })) ∧
    (p = 0 → step s = .next (State.tick { u with pc := 0x0000, ime := false, halted := false }))

/-- R310, R312, R314: when the two stack bytes lie in RAM and no transfer is active, a serviced interrupt followed by RETI is back where it
was: PC, SP, the registers and the flags are as at the boundary and IME is 1 again (that RETI sets it at once is the spec's
decision D5). -/
def Obligations.RetiUndoesInterruptService : Prop :=
  ∀ (s : State), Claim.AtBoundary s → Claim.InterruptDue s → s.MemoryOk → s.dma.active = false →
    Claim.isRam (s.sp - 1) → Claim.isRam (s.sp - 2) →
    ∃ t u, step s = .next t ∧ exec .reti t = .next u ∧ t.sp = s.sp - 2 ∧ t.ime = false ∧
      u.pc = s.pc ∧ u.sp = s.sp ∧ u.regs = s.regs ∧ u.flags = s.flags ∧ u.ime = true ∧ u.halted = false

/-- R134, R146, R411 (the spec's decision D5): EI with IME = 0 arms the delay; EI's own completion and that of the next instruction that
completes bring it to 0, and IME is 1 only then; until then the engine takes no interrupt. -/
def Obligations.EiTakesEffectOneInstructionLater : Prop :=
  (∀ s : State, s.ime = false → s.eiDelay = 0 →
    ∃ t, exec .ei s = .next t ∧ t.eiTick.eiDelay = 1 ∧ t.eiTick.ime = false ∧ t.eiTick = { s with eiDelay := 1 }) ∧
  (∀ s : State, s.eiDelay = 1 → s.eiTick = { s with eiDelay := 0, ime := true }) ∧
  (∀ s : State, s.eiDelay = 0 → s.eiTick = s) ∧
  (∀ s : State, (s.ime = true ∨ s.eiDelay ≠ 0) → exec .ei s = .next s) ∧
  (∀ (i : Instr) (s t : State), i ≠ .ei → i ≠ .di → i ≠ .reti → exec i s = .next t →
    t.eiDelay = s.eiDelay ∧ t.ime = s.ime)

namespace Sys2Proof.Claim
open Sys2Proof Sys2Proof.Machine

/-- The M-cycles of a base instruction by its opcode (R430), `taken` telling whether a conditional one is taken. -/
def baseCycles (op : Byte) (taken : Bool) : Nat :=
  if op ∈ ([0x20, 0x28, 0x30, 0x38] : List Byte) then (if taken then 3 else 2)
  else if op ∈ ([0xC0, 0xC8, 0xD0, 0xD8] : List Byte) then (if taken then 5 else 2)
  else if op ∈ ([0xC2, 0xCA, 0xD2, 0xDA] : List Byte) then (if taken then 4 else 3)
  else if op ∈ ([0xC4, 0xCC, 0xD4, 0xDC] : List Byte) then (if taken then 6 else 3)
  else if op = 0xCD then 6
  else if op = 0x08 then 5
  else if op ∈ ([0xC3, 0xC9, 0xD9, 0xC7, 0xCF, 0xD7, 0xDF, 0xE7, 0xEF, 0xF7, 0xFF, 0xEA, 0xFA, 0xC5, 0xD5, 0xE5, 0xF5,
    0xE8] : List Byte) then 4
  else if op ∈ ([0x18, 0x36, 0x34, 0x35, 0xE0, 0xF0, 0x01, 0x11, 0x21, 0x31, 0xC1, 0xD1, 0xE1, 0xF1, 0xF8] : List Byte) then 3
  else if op ∈ ([0x06, 0x0E, 0x16, 0x1E, 0x26, 0x2E, 0x3E, 0x46, 0x4E, 0x56, 0x5E, 0x66, 0x6E, 0x7E, 0x70, 0x71, 0x72, 0x73,
    0x74, 0x75, 0x77, 0x02, 0x0A, 0x12, 0x1A, 0x22, 0x2A, 0x32, 0x3A, 0xE2, 0xF2, 0x86, 0x8E, 0x96, 0x9E, 0xA6, 0xAE, 0xB6,
    0xBE, 0xC6, 0xCE, 0xD6, 0xDE, 0xE6, 0xEE, 0xF6, 0xFE, 0x03, 0x13, 0x23, 0x33, 0x0B, 0x1B, 0x2B, 0x3B, 0x09, 0x19, 0x29,
    0x39, 0xF9] : List Byte) then 2
  else 1

/-- The M-cycles of a CB instruction by its second byte (R244, R430). -/
def cbCycles (cbop : Byte) : Nat :=
  if cbop.toNat % 8 ≠ 6 then 2 else if cbop.toNat / 64 = 1 then 3 else 4

/-- The condition of the conditional opcode `op` (R115): bits 4:3 select NZ, Z, NC, C. -/
def takenBy (op : Byte) (f : Flags) : Bool :=
  match op.toNat / 8 % 4 with
  | 0 => !f.z
  | 1 => f.z
  | 2 => !f.c
  | _ => f.c

/-- The M-cycles of an instruction (R430). -/
def cycles (i : Instr) (f : Flags) : Nat :=
  match encodeFetched i with
  | 0xCB :: cbop :: _ => cbCycles cbop
  | op :: _ => baseCycles op (takenBy op f)
  | [] => 0

end Sys2Proof.Claim

/-- R142, R430: an instruction takes the M-cycles of the table, four clock cycles each. `exec` runs from within the M-cycle of the last
fetch to within the last M-cycle, so it advances the clock by all of them but the fetches (one per fetched byte; STOP's ignored
byte is not fetched, R148). The counts are general knowledge and the spec's decisions D12 and D13. -/
def Obligations.InstructionsTakeTheirCycles : Prop :=
  ∀ (i : Instr) (s t : State), i.wellFormed = true → exec i s = .next t →
    t.clock + 4 * (encodeFetched i).length = s.clock + 4 * Claim.cycles i s.flags

/-- R130, R131, R135, R136, R281: a step is the machine of one M-cycle per system step, run to the next instruction boundary (at most six
M-cycles, the longest instruction's). (That service starts in the detecting step is the spec's decision D9; that the step of the
interface is a whole instruction is the model's choice, log entry 9.) -/
def Obligations.StepIsSystemStepsToTheBoundary : Prop :=
  ∀ (s : State), s.inflight = .none → step s = runToBoundary 6 s

/-- R300, R149: no instruction stops the machine. Every one answers a next state, but for an undefined opcode under
`ILLEGAL_OPCODE_POLICY = REFUSE`, which is refused by name (the spec's decision D31, log entry 17). -/
def Obligations.NoInstructionStops : Prop :=
  ∀ (i : Instr) (s : State),
    (∃ t, exec i s = .next t) ∨
      (s.params.illegalOpcodes = .refuse ∧ ∃ op, (op, i) ∈ Instr.undefinedOpcodes ∧ exec i s = .refused (.undefinedOpcode op))

/-- R300, R149, R93: no step faults, and a step refuses only an undefined opcode under `REFUSE` or an MBC1 ROM whose size is no
non-zero multiple of 16 KiB (the spec's decisions D31 and D27; where the refusals are raised is the model's choice, log entries 16
and 17). -/
def Obligations.StepRefusesOnlyWhatTheSpecRefuses : Prop :=
  ∀ (s : State), s.inflight = .none →
    (∃ t, step s = .next t) ∨
    (s.params.illegalOpcodes = .refuse ∧ ∃ op i, (op, i) ∈ Instr.undefinedOpcodes ∧ step s = .refused (.undefinedOpcode op)) ∨
    (s.params.cartKind = .mbc1 ∧ (s.params.romSize = 0 ∨ s.params.romSize % 0x4000 ≠ 0) ∧
      step s = .refused (.romSize s.params.romSize))

/-! ## Reset and invariants -/

/-- R400, R401, R25, R26, R28 to R32, R37, R39, R44, R46 to R49: what reset leaves under both profiles. The values are the spec's
decision D3 and general knowledge; that `State.reset` is the profile `BOOT` is the model's choice (log entry 1). -/
def Obligations.ResetLeavesTheProfilesValues : Prop :=
  ∀ (p : Params) (ram : RamInit),
    let b := State.resetFor .boot p ram
    let q := State.resetFor .postBoot p ram
    State.reset = State.resetFor .boot Params.default RamInit.unlisted ∧
    (b.af = 0x0000 ∧ b.bc = 0x0000 ∧ b.de = 0x0000 ∧ b.hl = 0x0000 ∧ b.sp = 0x0000 ∧ b.pc = 0x0000) ∧
    (q.af = 0x01B0 ∧ q.bc = 0x0013 ∧ q.de = 0x00D8 ∧ q.hl = 0x014D ∧ q.sp = 0xFFFE ∧ q.pc = 0x0100) ∧
    (∀ s ∈ [b, q], s.ime = false ∧ s.eiDelay = 0 ∧ s.haltBug = false ∧ s.halted = false ∧ s.inflight = .none ∧ s.clock = 0 ∧
      s.diagnostics = [] ∧ s.frames = [] ∧ s.ie = 0 ∧ s.lcd.frame = List.replicate 144 (List.replicate 160 0xFFFFFFFF) ∧
      s.mbc1 = { ramEnabled := false, bankLow := 1, bankHigh := 0, bankMode := false } ∧ s.joySelect = 0b11 ∧
      s.vram = ram.vram ∧ s.wram = ram.wram ∧ s.oam = ram.oam ∧ s.hram = ram.hram ∧ s.eram = ram.eram ∧ s.params = p) ∧
    (b.iflag = 0x00 ∧ q.iflag = 0x01 ∧ b.bootEnabled = true ∧ q.bootEnabled = false) ∧
    (b.timer = { divCounter := 0x0000, tima := 0, tma := 0, tac := 0, lastSampledBit := false, reloadDelay := 0 } ∧
      q.timer = { b.timer with divCounter := 0xABCC }) ∧
    (b.dma = { active := false, source := 0x0000, index := 0, acc := 0, reg := 0x00 } ∧ q.dma = { b.dma with reg := 0xFF }) ∧
    (b.lcd = { lcdc := 0x00, statEnables := 0, coincidence := true, mode := .hblank, scy := 0, scx := 0, ly := 0, lyc := 0,
               bgp := 0x00, obp0 := 0x00, obp1 := 0x00, wy := 0, wx := 0, dot := 0, frame := b.lcd.frame } ∧
      q.lcd = { b.lcd with lcdc := 0x91, mode := .oam, bgp := 0xFC, obp0 := 0xFF, obp1 := 0xFF })

/-- The invariant of an instruction boundary holds at reset, under both profiles, when the RAM's initial contents are
canonical arrays of their sizes. -/
def Obligations.ResetMeetsTheInvariant : Prop :=
  State.reset.Ok ∧
  ∀ (profile : ResetProfile) (p : Params) (ram : RamInit),
    ram.vram.wf → Memory.within 0x2000 ram.vram → ram.wram.wf → Memory.within 0x2000 ram.wram →
    ram.oam.wf → Memory.within 160 ram.oam → ram.hram.wf → Memory.within 127 ram.hram →
    ram.eram.wf → Memory.within p.eramSize ram.eram → (State.resetFor profile p ram).Ok

/-- R150, R29, R43, R342, R351, R358, R361, R96, R48: every step keeps the invariant: memory canonical and inside its arrays, the EI delay in
0..2 and armed only while IME = 0, the timer's latch equal to the sampled bit and its reload delay in 0..4, LY, dot, mode and the coincidence
flag as the rules relate them, the DMA controller's fields in range, `bankLow` never 0, every frame 144 lines of 160 pixels, and
nothing in flight at the end of a step. (The rules rest on the spec's decisions D5 for the EI delay, D18 and D21 for the display and D24
for the transfer; the canonical form is the model's, log entry 4.) -/
def Obligations.StepKeepsTheInvariant : Prop :=
  ∀ (s t : State), s.Ok → step s = .next t → t.Ok

/-- R47, R76: the boot overlay, once disabled, is never enabled again; R35, R36, R10: the clock only advances, and the diagnostic log and the
frame events only grow; and no step changes a parameter (log entry 2). The frame events as a list are the model's (log entry 13). -/
def Obligations.StepsNeverUndoTheseThings : Prop :=
  ∀ (s t : State), step s = .next t →
    (s.bootEnabled = false → t.bootEnabled = false) ∧ s.clock < t.clock ∧
    (∃ d, t.diagnostics = s.diagnostics ++ d) ∧ (∃ f, t.frames = s.frames ++ f) ∧ t.params = s.params

/-! ## Results: 8-bit loads (41_load8.md) -/

/-- R160, R161: LD r,r' and LD r,n, their encodings `01 ddd sss` and `00 ddd 110 n`: they write the destination register and nothing else,
in the M-cycle of the last fetch. -/
def Obligations.RegisterLoadsWriteOneRegister : Prop :=
  ∀ (s : State) (dst r : R8) (n : Byte),
    Claim.EncodedAs (.ldRR dst r) [Claim.opcode (0b01000000 + 8 * Claim.rField dst + Claim.rField r)] ∧
    Claim.EncodedAs (.ldRN dst n) [Claim.opcode (0b00000110 + 8 * Claim.rField dst), n] ∧
    (exec (.ldRR dst r) s = .next (s.setReg dst (s.reg r)) ∧ exec (.ldRN dst n) s = .next (s.setReg dst n)) ∧
    (∀ (v : Byte) (q : R8), (s.setReg dst v).reg q = if q = dst then v else s.reg q) ∧
    (∀ v : Byte, s.setReg dst v = { s with regs := (s.setReg dst v).regs })

/-- R162, R165, R166, R175, R176, R169, R171, R173: the loads of a byte from memory. The byte is read one M-cycle after the last fetch, at (HL),
(BC), (DE), (nn), 0xFF00 + n or 0xFF00 + C, and goes to the destination register; LD A,(HL+) and LD A,(HL-) then step HL. -/
def Obligations.MemoryLoadsReadOneByte : Prop :=
  ∀ (s : State) (dst : R8) (nn : Word) (n : Byte),
    let t := s.tick
    (Claim.EncodedAs (.ldRHl dst) [Claim.opcode (0b01000110 + 8 * Claim.rField dst)] ∧ Claim.EncodedAs .ld_A_atBC [0x0A] ∧
      Claim.EncodedAs .ld_A_atDE [0x1A] ∧ Claim.EncodedAs .ld_A_atHLinc [0x2A] ∧ Claim.EncodedAs .ld_A_atHLdec [0x3A] ∧
      Claim.EncodedAs (.ld_A_atnn nn) [0xFA, loByte nn, hiByte nn] ∧ Claim.EncodedAs (.ldh_A_atn n) [0xF0, n] ∧
      Claim.EncodedAs .ld_A_atC [0xF2]) ∧
    exec (.ldRHl dst) s = .next (t.setReg dst (t.memRead (mkWord s.regs.h s.regs.l))) ∧
    exec .ld_A_atBC s = .next (t.setReg .a (t.memRead (mkWord s.regs.b s.regs.c))) ∧
    exec .ld_A_atDE s = .next (t.setReg .a (t.memRead (mkWord s.regs.d s.regs.e))) ∧
    exec .ld_A_atHLinc s = .next { t with regs := { s.regs with a := t.memRead s.hl, h := hiByte (s.hl + 1), l := loByte (s.hl + 1) } } ∧
    exec .ld_A_atHLdec s = .next { t with regs := { s.regs with a := t.memRead s.hl, h := hiByte (s.hl - 1), l := loByte (s.hl - 1) } } ∧
    exec (.ld_A_atnn nn) s = .next (t.setReg .a (t.memRead nn)) ∧
    exec (.ldh_A_atn n) s = .next (t.setReg .a (t.memRead (0xFF00 + n.setWidth 16))) ∧
    exec .ld_A_atC s = .next (t.setReg .a (t.memRead (0xFF00 + s.regs.c.setWidth 16)))

/-- R163, R164, R167, R168, R177, R178, R170, R172, R174: the stores of a byte. One byte is stored, at (HL), (BC), (DE), (nn), 0xFF00 + n or
0xFF00 + C, in the M-cycle after the last fetch; no register changes, but for HL of LD (HL+),A and LD (HL-),A. -/
def Obligations.MemoryStoresWriteOneByte : Prop :=
  ∀ (s : State) (r : R8) (nn : Word) (n : Byte),
    let t := s.tick
    (Claim.EncodedAs (.ldHlR r) [Claim.opcode (0b01110000 + Claim.rField r)] ∧ Claim.EncodedAs (.ld_atHL_n n) [0x36, n] ∧
      Claim.EncodedAs .ld_atBC_A [0x02] ∧ Claim.EncodedAs .ld_atDE_A [0x12] ∧ Claim.EncodedAs .ld_atHLinc_A [0x22] ∧
      Claim.EncodedAs .ld_atHLdec_A [0x32] ∧ Claim.EncodedAs (.ld_atnn_A nn) [0xEA, loByte nn, hiByte nn] ∧
      Claim.EncodedAs (.ldh_atn_A n) [0xE0, n] ∧ Claim.EncodedAs .ld_atC_A [0xE2]) ∧
    exec (.ldHlR r) s = .next (t.memWrite (mkWord s.regs.h s.regs.l) (s.reg r)) ∧
    exec (.ld_atHL_n n) s = .next (t.memWrite (mkWord s.regs.h s.regs.l) n) ∧
    exec .ld_atBC_A s = .next (t.memWrite (mkWord s.regs.b s.regs.c) s.regs.a) ∧
    exec .ld_atDE_A s = .next (t.memWrite (mkWord s.regs.d s.regs.e) s.regs.a) ∧
    exec .ld_atHLinc_A s = .next { t.memWrite s.hl s.regs.a with regs := { s.regs with h := hiByte (s.hl + 1), l := loByte (s.hl + 1) } } ∧
    exec .ld_atHLdec_A s = .next { t.memWrite s.hl s.regs.a with regs := { s.regs with h := hiByte (s.hl - 1), l := loByte (s.hl - 1) } } ∧
    exec (.ld_atnn_A nn) s = .next (t.memWrite nn s.regs.a) ∧
    exec (.ldh_atn_A n) s = .next (t.memWrite (0xFF00 + n.setWidth 16) s.regs.a) ∧
    exec .ld_atC_A s = .next (t.memWrite (0xFF00 + s.regs.c.setWidth 16) s.regs.a)

/-! ## Results: 16-bit loads and stack transfers (42_load16.md) -/

namespace Sys2Proof.Claim
open Sys2Proof Sys2Proof.Machine

/-- Two bytes pushed, the high one first, with a tick between (R151). -/
def pushed (s : State) (hi lo : Byte) : State :=
  let a := State.tick (State.memWrite { s with sp := s.sp - 1 } (s.sp - 1) hi)
  State.memWrite { a with sp := s.sp - 2 } (s.sp - 2) lo

/-- Two bytes popped from the M-cycle after this one on, the low one first, into the latches (R152). -/
def popped (s : State) : State :=
  let a := State.tick { s.tick with sp := s.sp + 1, latches := { s.latches with lo := s.tick.memRead s.sp } }
  { a with sp := s.sp + 2, latches := { a.latches with hi := a.memRead (s.sp + 1) } }

/-- The word of a register pair, the first-named register high (R21). -/
def pairWord (s : State) (p : Pair) : Word :=
  match p with
  | .bc => s.regs.b ++ s.regs.c
  | .de => s.regs.d ++ s.regs.e
  | .hl => s.regs.h ++ s.regs.l
  | .sp => s.sp

/-- The bytes of a pair PUSH stores: F is Z, N, H, C and four zeros (R22, R23). -/
def stackBytes (s : State) (p : StackPair) : Byte × Byte :=
  match p with
  | .bc => (s.regs.b, s.regs.c)
  | .de => (s.regs.d, s.regs.e)
  | .hl => (s.regs.h, s.regs.l)
  | .af => (s.regs.a, BitVec.ofNat 8 (s.flags.z.toNat * 128 + s.flags.n.toNat * 64 + s.flags.h.toNat * 32 + s.flags.c.toNat * 16))

/-- A pair of registers written by POP (R194): POP AF takes the flags from bits 7 to 4. -/
def withPair (s : State) (p : StackPair) (hi lo : Byte) : State :=
  match p with
  | .bc => { s with regs := { s.regs with b := hi, c := lo } }
  | .de => { s with regs := { s.regs with d := hi, e := lo } }
  | .hl => { s with regs := { s.regs with h := hi, l := lo } }
  | .af => { s with regs := { s.regs with a := hi },
                    flags := { z := lo.getLsbD 7, n := lo.getLsbD 6, h := lo.getLsbD 5, c := lo.getLsbD 4 } }

end Sys2Proof.Claim

/-- R190, R192, R191: LD rr,nn, LD SP,HL and LD (nn),SP, which stores SP's low byte at nn and its high byte at nn + 1 in two M-cycles. -/
def Obligations.WordLoadsMoveTwoBytes : Prop :=
  ∀ (s : State) (nn : Word),
    (Claim.EncodedAs (.ld_BC_nn nn) [0x01, loByte nn, hiByte nn] ∧ Claim.EncodedAs (.ld_DE_nn nn) [0x11, loByte nn, hiByte nn] ∧
      Claim.EncodedAs (.ld_HL_nn nn) [0x21, loByte nn, hiByte nn] ∧ Claim.EncodedAs (.ld_SP_nn nn) [0x31, loByte nn, hiByte nn] ∧
      Claim.EncodedAs .ld_SP_HL [0xF9] ∧ Claim.EncodedAs (.ld_atnn_SP nn) [0x08, loByte nn, hiByte nn]) ∧
    exec (.ld_BC_nn nn) s = .next { s with regs := { s.regs with b := hiByte nn, c := loByte nn } } ∧
    exec (.ld_DE_nn nn) s = .next { s with regs := { s.regs with d := hiByte nn, e := loByte nn } } ∧
    exec (.ld_HL_nn nn) s = .next { s with regs := { s.regs with h := hiByte nn, l := loByte nn } } ∧
    exec (.ld_SP_nn nn) s = .next { s with sp := nn } ∧
    exec .ld_SP_HL s = .next { s.tick with sp := mkWord s.regs.h s.regs.l } ∧
    exec (.ld_atnn_SP nn) s =
      .next (State.memWrite (State.tick (s.tick.memWrite nn (loByte s.sp))) (nn + 1) (hiByte s.sp))

/-- R193, R194, R151, R152, R22: PUSH stores the pair's high byte at SP - 1 and its low byte at SP - 2, leaves SP there and changes no
register or flag; POP reads the low byte at SP and the high byte at SP + 1, and leaves SP + 2; POP AF writes the flags from bits 7
to 4 of the low byte. -/
def Obligations.PushAndPopMoveAPair : Prop :=
  ∀ (s : State) (p : StackPair),
    let u := Claim.popped s
    Claim.EncodedAs (.pushPair p) [Claim.opcode (0b11000101 + 16 * Claim.stackField p)] ∧
    Claim.EncodedAs (.popPair p) [Claim.opcode (0b11000001 + 16 * Claim.stackField p)] ∧
    exec (.pushPair p) s = .next (Claim.pushed s.tick.tick (Claim.stackBytes s p).1 (Claim.stackBytes s p).2) ∧
    exec (.popPair p) s = .next (Claim.withPair u p u.latches.hi u.latches.lo)

/-- R193, R194, R21, R22: with the two stack bytes in RAM and no transfer active, POP of what PUSH stored gives the pair's value back, and SP
with it; into AF it gives the value without its low nibble, which F never holds (R22). -/
def Obligations.PopRestoresWhatPushStored : Prop :=
  ∀ (s : State) (p q : StackPair), s.MemoryOk → s.dma.active = false → Claim.isRam (s.sp - 1) → Claim.isRam (s.sp - 2) →
    ∃ t u, exec (.pushPair p) s = .next t ∧ exec (.popPair q) t = .next u ∧
      u.sp = s.sp ∧ u.stackPair q = (if q = .af then s.stackPair p &&& 0xFFF0 else s.stackPair p) ∧ (p = q → u.regs = s.regs ∧ u.flags = s.flags)

/-- R195, R233: LD HL,SP+e and ADD SP,e add the sign-extended displacement; Z and N are 0, and H and C come from the unsigned
sum of the low bytes. -/
def Obligations.StackPointerOffsetsAddTheDisplacement : Prop :=
  ∀ (s : State) (e : Byte),
    let r := BitVec.ofInt 16 ((s.sp.toNat : Int) + e.toInt)
    let f : Flags := { z := false, n := false, h := decide (0xF < s.sp.toNat % 16 + e.toNat % 16),
                       c := decide (0xFF < s.sp.toNat % 256 + e.toNat) }
    Claim.EncodedAs (.ld_HL_SPe e) [0xF8, e] ∧ Claim.EncodedAs (.add_SP_e e) [0xE8, e] ∧
    exec (.ld_HL_SPe e) s = .next { s.tick with regs := { s.regs with h := hiByte r, l := loByte r }, flags := f } ∧
    exec (.add_SP_e e) s = .next { s.tick.tick with sp := r, flags := f }

/-! ## Results: 8-bit arithmetic (43_alu8.md) -/

namespace Sys2Proof.Claim
open Sys2Proof Sys2Proof.Machine

/-- The state in which an ALU operation on (HL) computes: one M-cycle after the fetch, the byte read is in `t` (R200). -/
def operandRead (s : State) : State :=
  { s.tick with latches := { s.latches with t := s.tick.memRead (mkWord s.regs.h s.regs.l) } }

/-- R201, R202: `res <- a + v + c`. -/
def added (s : State) (v : Byte) (carry : Bool) : State :=
  let res := s.regs.a.toNat + v.toNat + carry.toNat
  { s with regs := { s.regs with a := BitVec.ofNat 8 res },
           flags := { z := decide (res % 256 = 0), n := false,
                      h := decide (0xF < s.regs.a.toNat % 16 + v.toNat % 16 + carry.toNat), c := decide (0xFF < res) } }

/-- The accumulator and flags of `a - v - c` (R203, R204): both borrows are negative exact differences. -/
def difference (s : State) (v : Byte) (carry : Bool) : Byte × Flags :=
  let r := s.regs.a - v - BitVec.ofNat 8 carry.toNat
  (r, { z := decide (r.toNat = 0), n := true, h := decide (s.regs.a.toNat % 16 < v.toNat % 16 + carry.toNat),
        c := decide (s.regs.a.toNat < v.toNat + carry.toNat) })

/-- SUB, SBC: A and the flags. -/
def subtracted (s : State) (v : Byte) (carry : Bool) : State :=
  { s with regs := { s.regs with a := (difference s v carry).1 }, flags := (difference s v carry).2 }

/-- CP (R208): the flags only. -/
def compared (s : State) (v : Byte) : State := { s with flags := (difference s v false).2 }

/-- AND, XOR, OR (R205 to R207). -/
def combined (s : State) (r : Byte) (h : Bool) : State :=
  { s with regs := { s.regs with a := r }, flags := { z := decide (r.toNat = 0), n := false, h := h, c := false } }

end Sys2Proof.Claim

namespace Sys2Proof.Claim
open Sys2Proof Sys2Proof.Machine

/-- The encodings of an ALU operation's three operand forms (R200, R116). -/
def AluEncoded (o : AluOp) (r : R8) (n : Byte) : Prop :=
  EncodedAs (.aluR o r) [opcode (0b10000000 + 8 * aluField o + rField r)] ∧
  EncodedAs (.aluHl o) [opcode (0b10000110 + 8 * aluField o)] ∧
  EncodedAs (.aluN o n) [opcode (0b11000110 + 8 * aluField o), n]

end Sys2Proof.Claim

/-- R201, R202, R200: ADD A,v and ADC A,v on a register, an immediate and (HL): A and all four flags, nothing else. -/
def Obligations.AddAndAdcSetResultAndFlags : Prop :=
  ∀ (s : State) (r : R8) (n : Byte),
    let m := Claim.operandRead s
    Claim.AluEncoded .add r n ∧ Claim.AluEncoded .adc r n ∧
    exec (.aluR .add r) s = .next (Claim.added s (s.reg r) false) ∧
    exec (.aluN .add n) s = .next (Claim.added s n false) ∧
    exec (.aluHl .add) s = .next (Claim.added m m.latches.t false) ∧
    exec (.aluR .adc r) s = .next (Claim.added s (s.reg r) s.flags.c) ∧
    exec (.aluN .adc n) s = .next (Claim.added s n s.flags.c) ∧
    exec (.aluHl .adc) s = .next (Claim.added m m.latches.t s.flags.c)

/-- R203, R204, R208, R200: SUB, SBC and CP in their three operand forms; CP leaves A. -/
def Obligations.SubSbcCpSetResultAndFlags : Prop :=
  ∀ (s : State) (r : R8) (n : Byte),
    let m := Claim.operandRead s
    Claim.AluEncoded .sub r n ∧ Claim.AluEncoded .sbc r n ∧ Claim.AluEncoded .cp r n ∧
    exec (.aluR .sub r) s = .next (Claim.subtracted s (s.reg r) false) ∧
    exec (.aluN .sub n) s = .next (Claim.subtracted s n false) ∧
    exec (.aluHl .sub) s = .next (Claim.subtracted m m.latches.t false) ∧
    exec (.aluR .sbc r) s = .next (Claim.subtracted s (s.reg r) s.flags.c) ∧
    exec (.aluN .sbc n) s = .next (Claim.subtracted s n s.flags.c) ∧
    exec (.aluHl .sbc) s = .next (Claim.subtracted m m.latches.t s.flags.c) ∧
    exec (.aluR .cp r) s = .next (Claim.compared s (s.reg r)) ∧
    exec (.aluN .cp n) s = .next (Claim.compared s n) ∧
    exec (.aluHl .cp) s = .next (Claim.compared m m.latches.t)

/-- R205, R206, R207, R200: AND, XOR and OR in their three operand forms: N and C are 0, and H is 1 for AND only. -/
def Obligations.LogicSetsResultAndFlags : Prop :=
  ∀ (s : State) (r : R8) (n : Byte),
    let m := Claim.operandRead s
    Claim.AluEncoded .and r n ∧ Claim.AluEncoded .xor r n ∧ Claim.AluEncoded .or r n ∧
    exec (.aluR .and r) s = .next (Claim.combined s (s.regs.a &&& s.reg r) true) ∧
    exec (.aluN .and n) s = .next (Claim.combined s (s.regs.a &&& n) true) ∧
    exec (.aluHl .and) s = .next (Claim.combined m (s.regs.a &&& m.latches.t) true) ∧
    exec (.aluR .xor r) s = .next (Claim.combined s (s.regs.a ^^^ s.reg r) false) ∧
    exec (.aluN .xor n) s = .next (Claim.combined s (s.regs.a ^^^ n) false) ∧
    exec (.aluHl .xor) s = .next (Claim.combined m (s.regs.a ^^^ m.latches.t) false) ∧
    exec (.aluR .or r) s = .next (Claim.combined s (s.regs.a ||| s.reg r) false) ∧
    exec (.aluN .or n) s = .next (Claim.combined s (s.regs.a ||| n) false) ∧
    exec (.aluHl .or) s = .next (Claim.combined m (s.regs.a ||| m.latches.t) false)

namespace Sys2Proof.Claim
open Sys2Proof Sys2Proof.Machine

/-- The flags of INC and DEC: C is kept (R209, R211). -/
def incFlags (f : Flags) (x : Byte) : Flags :=
  { z := decide ((x.toNat + 1) % 256 = 0), n := false, h := decide (0xF < x.toNat % 16 + 1), c := f.c }

def decFlags (f : Flags) (x : Byte) : Flags :=
  { z := decide (x.toNat = 1), n := true, h := decide (x.toNat % 16 = 0), c := f.c }

end Sys2Proof.Claim

/-- R209, R210, R211, R212: INC and DEC of a register and of the byte at HL, which is read in one M-cycle and written in the next; C is
unchanged. -/
def Obligations.IncAndDecKeepCarry : Prop :=
  ∀ (s : State) (r : R8),
    let m := Claim.operandRead s
    (Claim.EncodedAs (.incR r) [Claim.opcode (0b00000100 + 8 * Claim.rField r)] ∧
      Claim.EncodedAs (.decR r) [Claim.opcode (0b00000101 + 8 * Claim.rField r)] ∧
      Claim.EncodedAs .inc_atHL [0x34] ∧ Claim.EncodedAs .dec_atHL [0x35]) ∧
    exec (.incR r) s = .next ((s.setReg r (s.reg r + 1)).setFlags (Claim.incFlags s.flags (s.reg r))) ∧
    exec (.decR r) s = .next ((s.setReg r (s.reg r - 1)).setFlags (Claim.decFlags s.flags (s.reg r))) ∧
    exec .inc_atHL s = .next (State.memWrite { m.tick with flags := Claim.incFlags s.flags m.latches.t }
      (mkWord s.regs.h s.regs.l) (m.latches.t + 1)) ∧
    exec .dec_atHL s = .next (State.memWrite { m.tick with flags := Claim.decFlags s.flags m.latches.t }
      (mkWord s.regs.h s.regs.l) (m.latches.t - 1))

namespace Sys2Proof.Claim
open Sys2Proof Sys2Proof.Machine

/-- DAA's adjustment (R213), the two tests under N = 0 reading A before any adjustment. -/
def daaAdjust (f : Flags) (a : Nat) : Nat :=
  (if f.h = true ∨ (f.n = false ∧ 9 < a % 16) then 0x06 else 0) + (if f.c = true ∨ (f.n = false ∧ 0x99 < a) then 0x60 else 0)

/-- A byte of two decimal digits, and its value. -/
def isBcd (x : Byte) : Prop := x.toNat % 16 ≤ 9 ∧ x.toNat / 16 ≤ 9

def bcdValue (x : Byte) : Nat := x.toNat / 16 * 10 + x.toNat % 16

end Sys2Proof.Claim

/-- R214, R215, R216: CPL complements A and sets N and H; SCF and CCF set and complement C and clear N and H; no other flag changes. -/
def Obligations.CplScfCcfSetResultAndFlags : Prop :=
  ∀ (s : State),
    (Claim.EncodedAs .cpl [0x2F] ∧ Claim.EncodedAs .scf [0x37] ∧ Claim.EncodedAs .ccf [0x3F]) ∧
    exec .cpl s = .next { s with regs := { s.regs with a := BitVec.ofNat 8 (255 - s.regs.a.toNat) },
                                 flags := { s.flags with n := true, h := true } } ∧
    exec .scf s = .next { s with flags := { s.flags with n := false, h := false, c := true } } ∧
    exec .ccf s = .next { s with flags := { s.flags with n := false, h := false, c := !s.flags.c } }

/-- DAA (43_alu8.md) adds, or under N = 1 subtracts, the adjustment; Z from the result, H is 0, C is set by the high adjustment under N = 0
and kept under N = 1, N is kept. After an ADD or SUB of two BCD bytes it leaves their decimal sum or difference, with the carry
or borrow in C. (That both tests under N = 0 read A before any adjustment is the spec's decision D10; the decimal value is an inference.) -/
def Obligations.DaaMakesBcdArithmeticDecimal : Prop :=
  (∀ (s : State),
    let a := s.regs.a.toNat
    let adj := Claim.daaAdjust s.flags a
    let r := if s.flags.n then (a + 256 - adj) % 256 else (a + adj) % 256
    Claim.EncodedAs .daa [0x27] ∧
    exec .daa s = .next { s with regs := { s.regs with a := BitVec.ofNat 8 r },
                                 flags := { s.flags with z := decide (r = 0), h := false,
                                                         c := s.flags.c || (!s.flags.n && decide (0x99 < a)) } }) ∧
  (∀ (s : State) (v : Byte), Claim.isBcd s.regs.a → Claim.isBcd v →
    (∃ t u, exec (.aluN .add v) s = .next t ∧ exec .daa t = .next u ∧ Claim.isBcd u.regs.a ∧
      Claim.bcdValue u.regs.a = (Claim.bcdValue s.regs.a + Claim.bcdValue v) % 100 ∧
      u.flags.c = decide (100 ≤ Claim.bcdValue s.regs.a + Claim.bcdValue v)) ∧
    (∃ t u, exec (.aluN .sub v) s = .next t ∧ exec .daa t = .next u ∧ Claim.isBcd u.regs.a ∧
      Claim.bcdValue u.regs.a = (Claim.bcdValue s.regs.a + 100 - Claim.bcdValue v) % 100 ∧
      u.flags.c = decide (Claim.bcdValue s.regs.a < Claim.bcdValue v)))

/-! ## Results: 16-bit arithmetic (44_alu16.md) -/

/-- R230, R231, R232: ADD HL,rr leaves Z, and takes H from bit 11 and C from bit 15; INC rr and DEC rr wrap and write no flag. Each happens in the
M-cycle after the fetch. -/
def Obligations.PairArithmeticSetsItsFlags : Prop :=
  ∀ (s : State) (p : Pair),
    let a := (Claim.pairWord s .hl).toNat
    let b := (Claim.pairWord s p).toNat
    (Claim.EncodedAs (.addHlPair p) [Claim.opcode (0b00001001 + 16 * Claim.pairField p)] ∧
      Claim.EncodedAs (.incPair p) [Claim.opcode (0b00000011 + 16 * Claim.pairField p)] ∧
      Claim.EncodedAs (.decPair p) [Claim.opcode (0b00001011 + 16 * Claim.pairField p)]) ∧
    exec (.addHlPair p) s = .next ((s.tick.setHl (BitVec.ofNat 16 (a + b))).setFlags
      { s.flags with n := false, h := decide (0xFFF < a % 0x1000 + b % 0x1000), c := decide (0xFFFF < a + b) }) ∧
    exec (.incPair p) s = .next (s.tick.setPair p (BitVec.ofNat 16 (b + 1))) ∧
    exec (.decPair p) s = .next (s.tick.setPair p (BitVec.ofNat 16 (b + 0xFFFF)))

/-! ## Results: rotates, shifts and bits (45_rotate_shift_bit.md) -/

namespace Sys2Proof.Claim
open Sys2Proof Sys2Proof.Machine

/-- The 8-bit result of a rotate, shift or SWAP of `x` with the carry `c` before it (R240 to R252), as a number. -/
def rotated (op : CbOp) (x c : Nat) : Nat :=
  match op with
  | .rlc => x * 2 % 256 + x / 128
  | .rrc => x / 2 + x % 2 * 128
  | .rl => x * 2 % 256 + c
  | .rr => x / 2 + c * 128
  | .sla => x * 2 % 256
  | .sra => x / 2 + x / 128 * 128
  | .swap => x % 16 * 16 + x / 16
  | .srl => x / 2

/-- The bit that goes to C: bit 7 of a left movement, bit 0 of a right one, 0 for SWAP. -/
def carriedOut (op : CbOp) (x : Nat) : Bool :=
  match op with
  | .rlc | .rl | .sla => decide (128 ≤ x)
  | .rrc | .rr | .sra | .srl => decide (x % 2 = 1)
  | .swap => false

/-- The flags of a CB rotate, shift or SWAP. -/
def rotateFlags (op : CbOp) (x c : Nat) : Flags :=
  { z := decide (rotated op x c = 0), n := false, h := false, c := carriedOut op x }

end Sys2Proof.Claim

/-- R240 to R243: RLCA, RRCA, RLA and RRA move the bits of A as RLC, RRC, RL and RR do; Z, N and H are always 0. -/
def Obligations.AccumulatorRotatesSetResultAndFlags : Prop :=
  ∀ (s : State) (i : AccRot) (op : CbOp) (k : Nat),
    (i, op, k) ∈ [(AccRot.rlca, CbOp.rlc, 0x07), (.rrca, .rrc, 0x0F), (.rla, .rl, 0x17), (.rra, .rr, 0x1F)] →
    let x := s.regs.a.toNat
    Claim.EncodedAs (.accRot i) [Claim.opcode k] ∧
    exec (.accRot i) s =
      .next { s with regs := { s.regs with a := BitVec.ofNat 8 (Claim.rotated op x s.flags.c.toNat) },
                     flags := { z := false, n := false, h := false, c := Claim.carriedOut op x } }

/-- R245 to R252: the CB rotates, shifts and SWAP, encoded `CB 00 ooo sss`: the result, Z from it, N = H = 0, and C from the bit
moved out; the (HL) forms read in M3 and write in M4. -/
def Obligations.RotatesAndShiftsSetResultAndFlags : Prop :=
  ∀ (s : State) (op : CbOp) (r : R8),
    let m := Claim.operandRead s
    let x := (s.reg r).toNat
    let y := m.latches.t.toNat
    let c := s.flags.c.toNat
    Claim.EncodedAs (.cbR op r) [0xCB, Claim.opcode (8 * Claim.cbField op + Claim.rField r)] ∧
    Claim.EncodedAs (.cbHl op) [0xCB, Claim.opcode (8 * Claim.cbField op + 6)] ∧
    exec (.cbR op r) s = .next ((s.setReg r (BitVec.ofNat 8 (Claim.rotated op x c))).setFlags (Claim.rotateFlags op x c)) ∧
    exec (.cbHl op) s = .next (State.memWrite { m.tick with flags := Claim.rotateFlags op y c }
      (mkWord s.regs.h s.regs.l) (BitVec.ofNat 8 (Claim.rotated op y c)))

/-- R253, R254, R255, R244: BIT sets Z from the complement of the bit, N = 0, H = 1, keeps C and writes nothing; RES and SET clear and set the bit and
touch no flag; the (HL) forms read in M3, and RES and SET write in M4. -/
def Obligations.BitResSetActOnOneBit : Prop :=
  ∀ (s : State) (b : Fin 8) (r : R8),
    let m := Claim.operandRead s
    let bit := fun (x : Byte) => x.toNat / 2 ^ b.val % 2
    let cleared := fun (x : Byte) => BitVec.ofNat 8 (x.toNat - bit x * 2 ^ b.val)
    let set := fun (x : Byte) => BitVec.ofNat 8 (x.toNat + (1 - bit x) * 2 ^ b.val)
    (Claim.EncodedAs (.bitR b r) [0xCB, Claim.opcode (0b01000000 + 8 * b.val + Claim.rField r)] ∧
      Claim.EncodedAs (.bitHl b) [0xCB, Claim.opcode (0b01000110 + 8 * b.val)] ∧
      Claim.EncodedAs (.resR b r) [0xCB, Claim.opcode (0b10000000 + 8 * b.val + Claim.rField r)] ∧
      Claim.EncodedAs (.resHl b) [0xCB, Claim.opcode (0b10000110 + 8 * b.val)] ∧
      Claim.EncodedAs (.setR b r) [0xCB, Claim.opcode (0b11000000 + 8 * b.val + Claim.rField r)] ∧
      Claim.EncodedAs (.setHl b) [0xCB, Claim.opcode (0b11000110 + 8 * b.val)]) ∧
    exec (.bitR b r) s = .next { s with flags := { s.flags with z := decide (bit (s.reg r) = 0), n := false, h := true } } ∧
    exec (.bitHl b) s = .next { m with flags := { s.flags with z := decide (bit m.latches.t = 0), n := false, h := true } } ∧
    exec (.resR b r) s = .next (s.setReg r (cleared (s.reg r))) ∧
    exec (.resHl b) s = .next (State.memWrite m.tick (mkWord s.regs.h s.regs.l) (cleared m.latches.t)) ∧
    exec (.setR b r) s = .next (s.setReg r (set (s.reg r))) ∧
    exec (.setHl b) s = .next (State.memWrite m.tick (mkWord s.regs.h s.regs.l) (set m.latches.t))

/-! ## Results: control transfer (46_control.md) -/

namespace Sys2Proof.Claim
open Sys2Proof Sys2Proof.Machine

/-- `cond(cc)` (R115, R281). -/
def holds (cc : Cond) (f : Flags) : Prop :=
  match cc with
  | .nz => f.z = false
  | .z => f.z = true
  | .nc => f.c = false
  | .c => f.c = true

/-- The outcome of a condition, latched (R281). -/
def tested (s : State) (taken : Bool) : State := { s with latches := { s.latches with taken := taken } }

/-- The relative target (R282): `(PC + sext_16(e)) mod 2^16`. -/
def relative (pc : Word) (e : Byte) : Word := BitVec.ofInt 16 ((pc.toNat : Int) + e.toInt)

end Sys2Proof.Claim

/-- R270, R271, R272, R273, R274, R281, R282: the jumps. A taken conditional jump takes one M-cycle more than one not taken, which only leaves PC after the
instruction; no flag, register or byte of memory changes. -/
def Obligations.JumpsSetThePc : Prop :=
  ∀ (s : State) (nn : Word) (e : Byte) (cc : Cond),
    (Claim.EncodedAs (.jp_nn nn) [0xC3, loByte nn, hiByte nn] ∧ Claim.EncodedAs .jp_HL [0xE9] ∧ Claim.EncodedAs (.jr_e e) [0x18, e] ∧
      Claim.EncodedAs (.jpCC cc nn) [Claim.opcode (0b11000010 + 8 * Claim.ccField cc), loByte nn, hiByte nn] ∧
      Claim.EncodedAs (.jrCC cc e) [Claim.opcode (0b00100000 + 8 * Claim.ccField cc), e]) ∧
    exec (.jp_nn nn) s = .next { s.tick with pc := nn } ∧
    exec .jp_HL s = .next { s with pc := mkWord s.regs.h s.regs.l } ∧
    exec (.jr_e e) s = .next { s.tick with pc := Claim.relative s.pc e } ∧
    (Claim.holds cc s.flags →
      exec (.jpCC cc nn) s = .next { (Claim.tested s true).tick with pc := nn } ∧
      exec (.jrCC cc e) s = .next { (Claim.tested s true).tick with pc := Claim.relative s.pc e }) ∧
    (¬ Claim.holds cc s.flags →
      exec (.jpCC cc nn) s = .next (Claim.tested s false) ∧ exec (.jrCC cc e) s = .next (Claim.tested s false))

/-- R275, R276, R280, R151, R281: CALL, CALL cc and RST push the address of the next instruction, high byte first, and go to the target, `8 * t` for RST
t; a CALL cc not taken changes neither SP nor memory. -/
def Obligations.CallsPushTheReturnAddress : Prop :=
  ∀ (s : State) (nn : Word) (cc : Cond) (t : Fin 8),
    (Claim.EncodedAs (.call_nn nn) [0xCD, loByte nn, hiByte nn] ∧
      Claim.EncodedAs (.callCC cc nn) [Claim.opcode (0b11000100 + 8 * Claim.ccField cc), loByte nn, hiByte nn] ∧
      Claim.EncodedAs (.rst t) [Claim.opcode (0b11000111 + 8 * t.val)]) ∧
    exec (.call_nn nn) s = .next { Claim.pushed s.tick.tick (hiByte s.pc) (loByte s.pc) with pc := nn } ∧
    (Claim.holds cc s.flags → exec (.callCC cc nn) s =
      .next { Claim.pushed (Claim.tested s true).tick.tick (hiByte s.pc) (loByte s.pc) with pc := nn }) ∧
    (¬ Claim.holds cc s.flags → exec (.callCC cc nn) s = .next (Claim.tested s false)) ∧
    exec (.rst t) s = .next { Claim.pushed s.tick.tick (hiByte s.pc) (loByte s.pc) with pc := BitVec.ofNat 16 (8 * t.val) }

/-- R277, R278: RET pops PC, low byte first; RET cc evaluates its condition in M2 and, when it fails, only leaves PC after the
instruction. -/
def Obligations.ReturnsPopThePc : Prop :=
  ∀ (s : State) (cc : Cond),
    let u := Claim.popped s
    let v := Claim.popped (Claim.tested s.tick true)
    Claim.EncodedAs .ret [0xC9] ∧ Claim.EncodedAs (.retCC cc) [Claim.opcode (0b11000000 + 8 * Claim.ccField cc)] ∧
    exec .ret s = .next { u.tick with pc := mkWord u.latches.hi u.latches.lo } ∧
    (Claim.holds cc s.flags → exec (.retCC cc) s = .next { v.tick with pc := mkWord v.latches.hi v.latches.lo }) ∧
    (¬ Claim.holds cc s.flags → exec (.retCC cc) s = .next (Claim.tested s.tick false))

/-! ## Results: engine control (40_execution_engine.md section 2) -/

/-- NOP does nothing; DI clears IME and the EI delay; HALT halts, or, with IME = 0 and an interrupt pending, arms the HALT bug; STOP steps PC
over the byte after it under `SKIP1` and does nothing under `NOP1`; RETI pops PC as RET does, sets IME and clears the EI delay. (DI's
cancelling of the delay and RETI's setting IME at once, the not halting under the HALT bug, and STOP are the spec's decisions D5, D6
and D11.) -/
def Obligations.EngineControlActsOnTheEngine : Prop :=
  ∀ (s : State),
    let u := Claim.popped s
    (Claim.EncodedAs .nop [0x00] ∧ Claim.EncodedAs .di [0xF3] ∧ Claim.EncodedAs .ei [0xFB] ∧ Claim.EncodedAs .halt [0x76] ∧
      Claim.EncodedAs .reti [0xD9]) ∧
    (∀ x, decode .skip1 [0x10, x] = .ok (.stop, []) ∧ encode .skip1 x .stop = [0x10, x] ∧
      decode .nop1 [0x10] = .ok (.stop, []) ∧ encode .nop1 x .stop = [0x10]) ∧
    exec .nop s = .next s ∧
    exec .di s = .next { s with ime := false, eiDelay := 0 } ∧
    exec .halt s = .next (if s.ime = false ∧ s.ie &&& s.iflag ≠ 0 then { s with haltBug := true } else { s with halted := true }) ∧
    (s.params.stopMode = .skip1 → exec .stop s = .next { s with pc := s.pc + 1 }) ∧
    (s.params.stopMode = .nop1 → exec .stop s = .next s) ∧
    exec .reti s = .next { u.tick with pc := mkWord u.latches.hi u.latches.lo, ime := true, eiDelay := 0 }

/-- R149, R121: under `NOP` each of the 11 undefined opcodes only logs a diagnostic with the opcode and the address it was fetched at, and takes one
M-cycle; under `REFUSE` (the spec's decision D31) it has no meaning. The latch `opAddr`, from which `exec` takes the address, is the
model's own (DESIGN CHOICE, log entry 7), and so is the refusal's name and place (log entry 17); the last clause says the address by
the step, without the latch. -/
def Obligations.UndefinedOpcodesLogOrRefuse : Prop :=
  (Instr.undefinedOpcodes.map Prod.fst = [0xD3, 0xDB, 0xDD, 0xE3, 0xE4, 0xEB, 0xEC, 0xED, 0xF4, 0xFC, 0xFD] ∧
    ∀ x ∈ Instr.undefinedOpcodes, ∀ mode, decode mode [x.1] = .ok (x.2, [])) ∧
  (∀ (s : State) (op : Byte) (i : Instr), (op, i) ∈ Instr.undefinedOpcodes → s.params.illegalOpcodes = .nop →
    exec i s = .next { s with diagnostics := s.diagnostics ++ [{ opcode := op, address := s.latches.opAddr }] }) ∧
  (∀ (s : State) (op : Byte) (i : Instr), (op, i) ∈ Instr.undefinedOpcodes → s.params.illegalOpcodes = .refuse →
    exec i s = .refused (.undefinedOpcode op)) ∧
  (∀ (s : State) (op : Byte) (i : Instr), Claim.Fetches s → (op, i) ∈ Instr.undefinedOpcodes → s.memRead s.pc = op →
    s.params.illegalOpcodes = .nop →
    ∃ t, step s = .next t ∧ t.diagnostics = s.diagnostics ++ [{ opcode := op, address := s.pc }] ∧
      t.regs = s.regs ∧ t.flags = s.flags ∧ t.sp = s.sp ∧ t.clock = s.clock + 4 ∧
      t.pc = if s.haltBug then s.pc else s.pc + 1)

/-- The byte after 0xCB selects the CB instruction (R120, R123), and is fetched in M2 (R140, which is the spec's decision D12). That the table's
row PREFIX CB has a meaning of its own, which fetches that byte and answers exactly what the CB instruction answers, is the model's
choice (DESIGN CHOICE, log entry 11): R123 says that the byte is no instruction of its own. -/
def Obligations.CbByteSelectsTheCbInstruction : Prop :=
  ∀ (s : State) (i : Instr), decodeFetched [0xCB, s.tick.memRead s.pc] = .ok (i, []) →
    exec .cbPrefix s = exec i (Claim.byteFetched 0xCB s) ∧ ∃ t, exec .cbPrefix s = .next t

/-! ## Frames: what instructions leave unchanged -/

namespace Sys2Proof.Claim
open Sys2Proof Sys2Proof.Machine

/-- The registers of a pair field. -/
def pairRegs (p : Nat) : List R8 :=
  match p with
  | 0 => [.b, .c]
  | 1 => [.d, .e]
  | 2 => [.h, .l]
  | _ => []

/-- The register a 3-bit field names, none for (HL) (R113). -/
def fieldReg (r : Nat) : List R8 :=
  match r with
  | 0 => [.b]
  | 1 => [.c]
  | 2 => [.d]
  | 3 => [.e]
  | 4 => [.h]
  | 5 => [.l]
  | 7 => [.a]
  | _ => []

/-- The 8-bit registers an opcode of the base table writes, from the field patterns of R111 and the rules of files 41 to 45:
destinations, and the HL that LD A,(HL±) and LD (HL±),A step. -/
def baseWrites (op : Nat) : List R8 :=
  let y := op / 8 % 8
  let z := op % 8
  let p := op / 16 % 4
  if op / 64 = 0 then
    if z = 1 then (if y % 2 = 0 then pairRegs p else [.h, .l])
    else if z = 2 then (if y % 2 = 1 then [.a] else []) ++ (if 2 ≤ p then [.h, .l] else [])
    else if z = 3 then pairRegs p
    else if z = 4 ∨ z = 5 ∨ z = 6 then fieldReg y
    else if z = 7 ∧ y ≤ 5 then [.a]
    else []
  else if op / 64 = 1 then fieldReg y
  else if op / 64 = 2 then (if y = 7 then [] else [.a])
  else if z = 1 ∧ y % 2 = 0 then (if p = 3 then [.a] else pairRegs p)
  else if z = 6 then (if y = 7 then [] else [.a])
  else if op = 0xF0 ∨ op = 0xF2 ∨ op = 0xFA then [.a]
  else if op = 0xF8 then [.h, .l]
  else []

/-- The 8-bit registers an instruction may write. -/
def writesRegs (i : Instr) : List R8 :=
  match encodeFetched i with
  | 0xCB :: cbop :: _ => if cbop.toNat / 64 = 1 then [] else fieldReg (cbop.toNat % 8)
  | op :: _ => baseWrites op.toNat
  | [] => []

/-- Whether an instruction writes a flag (R27, R234): the 8-bit ALU, INC and DEC of a byte, DAA, CPL, SCF, CCF, ADD HL,rr, ADD SP,e, LD HL,SP+e, POP AF,
the rotates, shifts, SWAP and BIT. -/
def writesFlags (i : Instr) : Bool :=
  match encodeFetched i with
  | 0xCB :: cbop :: _ => cbop.toNat / 64 ≤ 1
  | op :: _ =>
    op.toNat / 64 = 2 || (op.toNat / 64 = 3 && op.toNat % 8 = 6) || (op.toNat / 64 = 0 && (op.toNat % 8 = 4 || op.toNat % 8 = 5 ||
      op.toNat % 8 = 7 || op.toNat % 16 = 9)) || op = 0xE8 || op = 0xF8 || op = 0xF1
  | [] => false

/-- Whether an instruction writes SP: LD SP,nn, LD SP,HL, INC SP, DEC SP, ADD SP,e, PUSH, POP, CALL, RET and RST (R24, R151, R152). -/
def writesSp (i : Instr) : Bool :=
  match encodeFetched i with
  | 0xCB :: _ => false
  | op :: _ => op ∈ ([0x31, 0xF9, 0x33, 0x3B, 0xE8, 0xC5, 0xD5, 0xE5, 0xF5, 0xC1, 0xD1, 0xE1, 0xF1, 0xCD, 0xC4, 0xCC, 0xD4, 0xDC,
      0xC9, 0xD9, 0xC0, 0xC8, 0xD0, 0xD8, 0xC7, 0xCF, 0xD7, 0xDF, 0xE7, 0xEF, 0xF7, 0xFF] : List Byte)
  | [] => false

/-- Whether an instruction writes PC beyond its fetches: control transfer (R24), and STOP under `SKIP1` (R148). -/
def writesPc (i : Instr) : Bool :=
  match encodeFetched i with
  | 0xCB :: _ => false
  | op :: _ => op ∈ ([0x10, 0x18, 0x20, 0x28, 0x30, 0x38, 0xC3, 0xC2, 0xCA, 0xD2, 0xDA, 0xE9, 0xCD, 0xC4, 0xCC, 0xD4, 0xDC, 0xC9, 0xD9,
      0xC0, 0xC8, 0xD0, 0xD8, 0xC7, 0xCF, 0xD7, 0xDF, 0xE7, 0xEF, 0xF7, 0xFF] : List Byte)
  | [] => false

/-- The addresses an instruction stores to from the state its meaning starts in, in the order of the stores (files 41 to 46). A
conditional CALL stores only when taken. -/
def stores (i : Instr) (s : State) : List Word :=
  let hl := mkWord s.regs.h s.regs.l
  let push := [s.sp - 1, s.sp - 2]
  match encodeFetched i with
  | 0xCB :: cbop :: _ => if cbop.toNat % 8 = 6 ∧ cbop.toNat / 64 ≠ 1 then [hl] else []
  | op :: rest =>
    if op ∈ ([0x70, 0x71, 0x72, 0x73, 0x74, 0x75, 0x77, 0x36, 0x34, 0x35, 0x22, 0x32] : List Byte) then [hl]
    else if op = 0x02 then [mkWord s.regs.b s.regs.c]
    else if op = 0x12 then [mkWord s.regs.d s.regs.e]
    else if op = 0xE2 then [0xFF00 + s.regs.c.setWidth 16]
    else if op = 0xE0 then rest.map (fun n => 0xFF00 + n.setWidth 16)
    else if op = 0xEA then [mkWord (rest.getD 1 0) (rest.getD 0 0)]
    else if op = 0x08 then [mkWord (rest.getD 1 0) (rest.getD 0 0), mkWord (rest.getD 1 0) (rest.getD 0 0) + 1]
    else if op ∈ ([0xC5, 0xD5, 0xE5, 0xF5, 0xCD, 0xC7, 0xCF, 0xD7, 0xDF, 0xE7, 0xEF, 0xF7, 0xFF] : List Byte) then push
    else if op ∈ ([0xC4, 0xCC, 0xD4, 0xDC] : List Byte) then (if takenBy op s.flags then push else [])
    else []
  | [] => []

end Sys2Proof.Claim

/-- R24, R27, R234 and the rules of files 41 to 46: an instruction changes no 8-bit register but its destinations (and the HL that LD A,(HL±) and
LD (HL±),A step), and one that is not of the listed ones changes no flag; interrupt service changes neither. -/
def Obligations.OnlyNamedRegistersAndFlagsChange : Prop :=
  (∀ (i : Instr) (s t : State), i.wellFormed = true → exec i s = .next t →
    (∀ r, r ∉ Claim.writesRegs i → t.reg r = s.reg r) ∧ (Claim.writesFlags i = false → t.flags = s.flags)) ∧
  (∀ s : State, s.takeInterrupt.flags = s.flags ∧ s.takeInterrupt.regs = s.regs)

/-- R24, R28 to R31, R36, R47 to R49, R303: what the other instructions leave of SP, PC, the engine's flip-flops, the diagnostic log, and, when they store nothing,
of the registers only a store reaches. (PC here is the one after the fetches.) -/
def Obligations.EngineRegistersChangeOnlyWhereNamed : Prop :=
  ∀ (i : Instr) (s t : State), i.wellFormed = true → exec i s = .next t →
    (Claim.writesSp i = false → t.sp = s.sp) ∧
    (Claim.writesPc i = false → t.pc = s.pc) ∧
    (i ≠ .di → i ≠ .ei → i ≠ .reti → t.ime = s.ime ∧ t.eiDelay = s.eiDelay) ∧
    (i ≠ .halt → t.halted = s.halted ∧ t.haltBug = s.haltBug) ∧
    ((∀ op, (op, i) ∉ Instr.undefinedOpcodes) → t.diagnostics = s.diagnostics) ∧
    t.inflight = s.inflight ∧ t.params = s.params ∧
    (Claim.stores i s = [] → t.ie = s.ie ∧ t.bootEnabled = s.bootEnabled ∧ t.mbc1 = s.mbc1 ∧ t.joySelect = s.joySelect ∧
      t.dma.reg = s.dma.reg ∧ t.dma.source = s.dma.source ∧ t.timer.tma = s.timer.tma ∧ t.timer.tac = s.timer.tac ∧
      t.lcd.lcdc = s.lcd.lcdc ∧ t.lcd.statEnables = s.lcd.statEnables ∧ t.lcd.scy = s.lcd.scy ∧ t.lcd.scx = s.lcd.scx ∧
      t.lcd.lyc = s.lcd.lyc ∧ t.lcd.bgp = s.lcd.bgp ∧ t.lcd.obp0 = s.lcd.obp0 ∧ t.lcd.obp1 = s.lcd.obp1 ∧
      t.lcd.wy = s.lcd.wy ∧ t.lcd.wx = s.lcd.wx)

/-- Every byte of RAM but the stored ones reads as before. The addresses stored to are computed as the meanings compute them; an
OAM byte is said to stay when no transfer is active and the instruction starts none (0xFF46); external RAM is said by its
offsets, which the bank controller maps. -/
def Obligations.OnlyStoredBytesOfMemoryChange : Prop :=
  ∀ (i : Instr) (s t : State), i.wellFormed = true → s.MemoryOk → exec i s = .next t →
    (∀ a, Claim.isRam a → (∀ b ∈ Claim.stores i s, ¬ Claim.sameByte a b) →
      (Claim.isOam a → s.dma.active = false ∧ (0xFF46 : Word) ∉ Claim.stores i s) → t.busRead a = s.busRead a) ∧
    (∀ off, (∀ b ∈ Claim.stores i s, ¬ (0xA000 ≤ b.toNat ∧ b.toNat ≤ 0xBFFF ∧ s.eramOffset b.toNat = some off)) →
      t.eram.read off = s.eram.read off)

/-- R130, R143, R301, R305, R306: what the peripherals' part of a system step leaves alone: every register of the engine, IE, the selector, the bank controller, the boot
overlay, every byte of memory but OAM under a transfer; of IF it sets bits only, and never Serial or Joypad (decision D36); the clock
advances by 4. -/
def Obligations.TickLeavesTheEngineAlone : Prop :=
  ∀ (s : State),
    let t := s.tick
    t = { s with iflag := t.iflag, lcd := t.lcd, frames := t.frames, timer := t.timer, oam := t.oam, dma := t.dma,
                 clock := s.clock + 4 } ∧
    (s.iflag &&& t.iflag = s.iflag ∧ t.iflag.getLsbD 3 = s.iflag.getLsbD 3 ∧ t.iflag.getLsbD 4 = s.iflag.getLsbD 4) ∧
    (s.dma.active = false → t.oam = s.oam ∧ t.dma = s.dma) ∧
    (t.dma.reg = s.dma.reg ∧ t.dma.source = s.dma.source ∧ t.timer.tma = s.timer.tma ∧ t.timer.tac = s.timer.tac) ∧
    (∀ a : Word, a.toNat ≤ 0xFDFF ∨ 0xFF80 ≤ a.toNat → t.busRead a = s.busRead a)

/-! ## Memory (20_memory.md) -/

/-- R61, R62, R98: the decode, row by row, for a read and for a write. Row 0 blocks the CPU while a transfer is active; the boot
overlay answers reads only, and 0xFF50 reads 0xFF (decision D30); the joypad's low nibble is whatever the host gives (decision D28, log
entry 5); VRAM and OAM answer in every display mode (D23); the serial addresses are unmapped (D29). -/
def Obligations.BusDecodesRowByRow : Prop :=
  ∀ (s : State) (a : Word) (v : Byte),
    let n := a.toNat
    let overlay := s.bootEnabled = true ∧ n < s.params.bootLen ∧ n < 0x100
    (s.dma.active = true → ¬ (0xFF80 ≤ n ∧ n ≤ 0xFFFE) → n ≠ 0xFF46 → s.memRead a = 0xFF ∧ s.memWrite a v = s) ∧
    (s.dma.active = false ∨ (0xFF80 ≤ n ∧ n ≤ 0xFFFE) ∨ n = 0xFF46 → s.memRead a = s.busRead a ∧ s.memWrite a v = s.busWrite a v) ∧
    (overlay → s.busRead a = s.params.bootRom.read n) ∧
    (n ≤ 0x7FFF → (¬ overlay → s.busRead a = s.readRom n) ∧ s.busWrite a v = s.writeRom n v) ∧
    (0x8000 ≤ n → n ≤ 0x9FFF → s.busRead a = s.vram.read (n - 0x8000) ∧
      s.busWrite a v = { s with vram := s.vram.write (n - 0x8000) v }) ∧
    (0xA000 ≤ n → n ≤ 0xBFFF → s.busRead a = s.readEram n ∧ s.busWrite a v = s.writeEram n v) ∧
    (0xC000 ≤ n → n ≤ 0xDFFF → s.busRead a = s.wram.read (n - 0xC000) ∧
      s.busWrite a v = { s with wram := s.wram.write (n - 0xC000) v }) ∧
    (0xE000 ≤ n → n ≤ 0xFDFF → s.busRead a = s.wram.read (n - 0xE000) ∧
      s.busWrite a v = { s with wram := s.wram.write (n - 0xE000) v }) ∧
    (0xFE00 ≤ n → n ≤ 0xFE9F → s.busRead a = s.oam.read (n - 0xFE00) ∧
      s.busWrite a v = { s with oam := s.oam.write (n - 0xFE00) v }) ∧
    (n = 0xFF00 → (∃ j : BitVec 4, s.busRead a = BitVec.ofNat 8 (0xC0 + s.joySelect.toNat * 16 + j.toNat)) ∧
      s.busWrite a v = { s with joySelect := BitVec.ofNat 2 (v.toNat / 16) }) ∧
    (n = 0xFF0F → s.busRead a = BitVec.ofNat 8 (0xE0 + s.iflag.toNat) ∧ s.busWrite a v = { s with iflag := BitVec.ofNat 5 v.toNat }) ∧
    (n = 0xFF50 → s.busRead a = 0xFF ∧ s.busWrite a v = if v = 0 then s else { s with bootEnabled := false }) ∧
    (0xFF80 ≤ n → n ≤ 0xFFFE → s.busRead a = s.hram.read (n - 0xFF80) ∧
      s.busWrite a v = { s with hram := s.hram.write (n - 0xFF80) v }) ∧
    (n = 0xFFFF → s.busRead a = BitVec.ofNat 8 (0xE0 + s.ie.toNat) ∧ s.busWrite a v = { s with ie := BitVec.ofNat 5 v.toNat }) ∧
    ((0xFEA0 ≤ n ∧ n ≤ 0xFEFF) ∨ (0xFF01 ≤ n ∧ n ≤ 0xFF03) ∨ (0xFF08 ≤ n ∧ n ≤ 0xFF0E) ∨ (0xFF10 ≤ n ∧ n ≤ 0xFF3F) ∨
      (0xFF4C ≤ n ∧ n ≤ 0xFF4F) ∨ (0xFF51 ≤ n ∧ n ≤ 0xFF7F) → s.busRead a = 0xFF ∧ s.busWrite a v = s)

/-- R65, R67, R68, R69, R77: what is stored in RAM is what every later read there finds, through the mirror of work RAM too, and no other RAM
byte changes. (That VRAM and OAM can be read and written in every display mode is the spec's decision D23, log entry 15.) -/
def Obligations.RamReadsWhatWasStored : Prop :=
  ∀ (s : State) (a b : Word) (v : Byte), s.MemoryOk → Claim.isRam a → Claim.isRam b →
    (Claim.sameByte a b → (s.busWrite a v).busRead b = v) ∧
    (¬ Claim.sameByte a b → (s.busWrite a v).busRead b = s.busRead b)

/-- R85, R86, R87, R92, R93, R94: what the cartridge answers: a plain ROM its image and 0xFF beyond it, ungated external RAM; an MBC1 the fixed and the
switchable ROM bank, and the RAM bank its registers select, when RAM is enabled. (The spec's decisions D26 for the plain cartridge's
ungated RAM and its 0xFF, D25 for an MBC1's disabled or absent RAM and the RAM bank count, and D27 for the ROM sizes; log entry 15.) -/
def Obligations.CartridgesMapTheirWindows : Prop :=
  ∀ (s : State) (n : Nat), s.params.accepted = true →
    let banks := s.params.romSize / 0x4000
    let ramBanks := max 1 ((s.params.eramSize + 0x1FFF) / 0x2000)
    let m := s.mbc1
    (s.params.cartKind = .romOnly →
      s.readRom n = (if n < s.params.romSize then s.params.rom.read n else 0xFF) ∧
      s.readEram n = (if n - 0xA000 < s.params.eramSize then s.eram.read (n - 0xA000) else 0xFF)) ∧
    (s.params.cartKind = .mbc1 → n < 0x4000 →
      s.readRom n = s.params.rom.read ((if m.bankMode then m.bankHigh.toNat * 32 % banks else 0) * 0x4000 + n)) ∧
    (s.params.cartKind = .mbc1 → 0x4000 ≤ n → n ≤ 0x7FFF →
      let bank := (m.bankHigh.toNat * 32 + m.bankLow.toNat) % banks
      s.readRom n = s.params.rom.read ((if bank = 0 ∧ 1 < banks then 1 else bank) * 0x4000 + (n - 0x4000))) ∧
    (s.params.cartKind = .mbc1 →
      let off := (if m.bankMode then m.bankHigh.toNat % ramBanks else 0) * 0x2000 + (n - 0xA000)
      s.readEram n = if m.ramEnabled = true ∧ off < s.params.eramSize then s.eram.read off else 0xFF)

/-- R86, R87, R88, R89, R90, R91, R94: what a write to the cartridge does: nothing to a plain ROM, one register of an MBC1, one byte of external RAM where RAM
answers. (The spec's decisions, log entry 15: D25 for `bankLow`'s zero test on five bits, `bankMode`'s mask, the dropped writes
of disabled or absent RAM and the RAM bank count; D26 for the plain cartridge's ungated RAM.) -/
def Obligations.CartridgeWritesSetBanksAndRam : Prop :=
  ∀ (s : State) (n : Nat) (v : Byte),
    (s.params.cartKind = .romOnly → s.writeRom n v = s) ∧
    (s.params.cartKind = .mbc1 →
      (n < 0x2000 → s.writeRom n v = { s with mbc1 := { s.mbc1 with ramEnabled := decide (v.toNat % 16 = 0xA) } }) ∧
      (0x2000 ≤ n → n < 0x4000 → s.writeRom n v =
        { s with mbc1 := { s.mbc1 with bankLow := BitVec.ofNat 5 (if v.toNat % 32 = 0 then 1 else v.toNat % 32) } }) ∧
      (0x4000 ≤ n → n < 0x6000 → s.writeRom n v = { s with mbc1 := { s.mbc1 with bankHigh := BitVec.ofNat 2 v.toNat } }) ∧
      (0x6000 ≤ n → s.writeRom n v = { s with mbc1 := { s.mbc1 with bankMode := decide (v.toNat % 2 = 1) } })) ∧
    (let ramBanks := max 1 ((s.params.eramSize + 0x1FFF) / 0x2000)
     let bank := if s.params.cartKind = .mbc1 ∧ s.mbc1.bankMode = true then s.mbc1.bankHigh.toNat % ramBanks else 0
     let off := bank * 0x2000 + (n - 0xA000)
     s.writeEram n v =
       if off < s.params.eramSize ∧ (s.params.cartKind = .mbc1 → s.mbc1.ramEnabled = true) then { s with eram := s.eram.write off v } else s)

/-- R95, R96, R97, R99, R413: a write of 0xFF46 arms a transfer from page v; the tick of that same system step copies the first byte, and each tick of an active
transfer copies the next one, read as the bus decodes it without the block, until the tick that copies byte 159 ends it. The write changes nothing but the DMA controller. (The restart, the first copy in the
write's own step, the unblocked reads and the read of 0xFF46 are the spec's decision D24, log entry 15.) -/
def Obligations.OamDmaCopiesAByteATick : Prop :=
  (∀ (s : State) (v : Byte),
    s.busWrite 0xFF46 v =
      { s with dma := { active := true, source := BitVec.ofNat 16 (v.toNat * 256), index := 0, acc := 0, reg := v } } ∧
    s.busRead 0xFF46 = s.dma.reg) ∧
  (∀ (s : State), s.dma.active = true → s.dma.acc = 0 → s.dma.index < 160 →
    let u := (s.displayTick 4).timerTick 4
    let t := s.tick
    t.oam = s.oam.write s.dma.index (u.busRead (s.dma.source + BitVec.ofNat 16 s.dma.index)) ∧
    t.dma = { s.dma with index := s.dma.index + 1, active := decide (s.dma.index + 1 ≠ 160), acc := 0 }) ∧
  (∀ (s : State), s.dma.active = false → s.tick.oam = s.oam ∧ s.tick.dma = s.dma)

/-- The whole transfer (R95, R96, R97, R413), from every page but 0xFF, whose registers move under it: 160 ticks after the write, with no access in between, OAM
is a copy of the page as the bus read it before, the transfer is over, and no other memory has changed. (The spec's decision D24: copying
starts in the write's step, a write restarts a transfer, and its reads are not blocked; log entry 15.) -/
def Obligations.OamDmaCopiesThePage : Prop :=
  ∀ (s : State) (v : Byte), s.MemoryOk → v.toNat ≤ 0xFE →
    let t := Nat.repeat State.tick 160 (s.busWrite 0xFF46 v)
    t.dma.active = false ∧ t.dma.index = 160 ∧
    t.vram = s.vram ∧ t.eram = s.eram ∧ t.wram = s.wram ∧ t.hram = s.hram ∧
    ∀ k, k < 160 → t.oam.read k = s.busRead (BitVec.ofNat 16 (v.toNat * 256 + k))

/-! ## Register pairs (10_state.md) -/

/-- R21, R22, R23: the pair accessors and register F. A pair written and read gives the value back, but AF without F's low nibble, which always reads zero. -/
def Obligations.PairsAndFlagsPackAsTheRulesSay : Prop :=
  ∀ (s : State) (v : Word) (b : Byte) (p : Pair) (q : StackPair),
    (s.setPair p v).pair p = v ∧ (s.setStackPair q v).stackPair q = (if q = .af then v &&& 0xFFF0 else v) ∧
    s.bc.toNat = s.regs.b.toNat * 256 + s.regs.c.toNat ∧ s.de.toNat = s.regs.d.toNat * 256 + s.regs.e.toNat ∧
    s.hl.toNat = s.regs.h.toNat * 256 + s.regs.l.toNat ∧ s.af.toNat = s.regs.a.toNat * 256 + s.flags.pack.toNat ∧
    s.flags.pack.toNat = s.flags.z.toNat * 128 + s.flags.n.toNat * 64 + s.flags.h.toNat * 32 + s.flags.c.toNat * 16 ∧
    (Flags.unpack b).pack = b &&& 0xF0 ∧ Flags.unpack s.flags.pack = s.flags

/-! ## Timer (60_exceptions.md section 6) -/

/-- R336, R337, R338, R339, R340, R331, R333: the timer's registers. A write of DIV clears the counter, a write of TAC changes the enable and the select, and both count a
falling edge of the sampled bit; a write of TIMA is ignored during the reload delay. (That an edge during the delay does nothing is the
spec's decision D16, and TAC's layout, its mask and its read value are D17; log entry 15.) -/
def Obligations.TimerRegistersReadAndWrite : Prop :=
  ∀ (s : State) (v : Byte), s.timer.Ok →
    let t := s.timer
    let bit := fun (tac : BitVec 3) (div : Word) =>
      tac.getLsbD 2 && div.getLsbD (if tac.toNat % 4 = 0 then 9 else if tac.toNat % 4 = 1 then 3 else if tac.toNat % 4 = 2 then 5 else 7)
    let counted := fun (u : Timer) =>
      if u.reloadDelay ≠ 0 then u
      else if u.tima = 0xFF then { u with tima := 0, reloadDelay := 4 } else { u with tima := u.tima + 1 }
    let edge := fun (u : Timer) =>
      let now := bit u.tac u.divCounter
      { (if bit t.tac t.divCounter = true ∧ now = false then counted u else u) with lastSampledBit := now }
    (s.busRead 0xFF04 = BitVec.ofNat 8 (t.divCounter.toNat / 256) ∧ s.busRead 0xFF05 = t.tima ∧ s.busRead 0xFF06 = t.tma ∧
      s.busRead 0xFF07 = BitVec.ofNat 8 (0xF8 + t.tac.toNat)) ∧
    s.busWrite 0xFF04 v = { s with timer := edge { t with divCounter := 0 } } ∧
    s.busWrite 0xFF05 v = { s with timer := if t.reloadDelay = 0 then { t with tima := v } else t } ∧
    s.busWrite 0xFF06 v = { s with timer := { t with tma := v } } ∧
    s.busWrite 0xFF07 v = { s with timer := edge { t with tac := BitVec.ofNat 3 v.toNat } }

namespace Sys2Proof.Claim
open Sys2Proof Sys2Proof.Machine

/-- The clocks between two falling edges of the sampled bit: 1024, 16, 64, 256 for selects 0 to 3 (R335). -/
def timerPeriod (tac : BitVec 3) : Nat :=
  match tac.toNat % 4 with
  | 0 => 1024
  | 1 => 16
  | 2 => 64
  | _ => 256

end Sys2Proof.Claim

/-- R330, R331, R332, R335: with the timer enabled, no reload pending and no overflow in reach, n clocks advance the counter by n and TIMA by the multiples of
the select's period the counter passes. (The order within a clock is the spec's decision D15, TAC's layout D17.) -/
def Obligations.TimerCountsItsPeriod : Prop :=
  ∀ (s : State) (n : Nat), s.timer.Ok → s.timer.tac.getLsbD 2 = true → s.timer.reloadDelay = 0 →
    let period := Claim.timerPeriod s.timer.tac
    let passed := (s.timer.divCounter.toNat + n) / period - s.timer.divCounter.toNat / period
    s.timer.tima.toNat + passed < 256 →
    let t := s.timerTick n
    t.timer.divCounter = s.timer.divCounter + BitVec.ofNat 16 n ∧ t.timer.tima.toNat = s.timer.tima.toNat + passed ∧
    t.iflag = s.iflag ∧ t.timer.reloadDelay = 0

/-- R333, R334, R332: at an overflow TIMA becomes 0x00 and the reload is four clocks later, to TMA and with the Timer request, on that exact clock and not before. (The
order within a clock is the spec's decision D15, the reload from TMA as it then is D16.) -/
def Obligations.TimerReloadsFourClocksAfterOverflow : Prop :=
  ∀ (s : State), s.timer.Ok → s.timer.tima = 0xFF → s.timer.reloadDelay = 0 → s.timer.sampled = true →
    Timer.sampled { s.timer with divCounter := s.timer.divCounter + 1 } = false →
    (∀ k : Fin 4, (s.timerTick (k.val + 1)).timer.tima = 0x00 ∧ (s.timerTick (k.val + 1)).iflag = s.iflag) ∧
    (s.timerTick 5).timer.tima = s.timer.tma ∧ (s.timerTick 5).iflag = s.iflag ||| 0b00100 ∧ (s.timerTick 5).timer.reloadDelay = 0

/-! ## Display controller (60_exceptions.md section 7) -/

namespace Sys2Proof.Claim
open Sys2Proof Sys2Proof.Machine

/-- The position in the frame, in dots. -/
def position (d : Lcd) : Nat := d.ly.toNat * 456 + d.dot

/-- The mode of a position (R351): 80 dots OAM, 172 dots transfer and 204 dots HBlank on lines 0 to 143, VBlank after them. -/
def modeAt (pos : Nat) : Mode :=
  if 144 * 456 ≤ pos then .vblank else if pos % 456 < 80 then .oam else if pos % 456 < 80 + 172 then .transfer else .hblank

/-- The enabled sources of STAT (R42). -/
def hblankSource (d : Lcd) : Bool := d.statEnables.getLsbD 0
def vblankSource (d : Lcd) : Bool := d.statEnables.getLsbD 1
def oamSource (d : Lcd) : Bool := d.statEnables.getLsbD 2
def lycSource (d : Lcd) : Bool := d.statEnables.getLsbD 3

/-- IF with the LCD-STAT bit set when `c` holds. -/
def withStat (f : BitVec 5) (c : Bool) : BitVec 5 := if c then f ||| 0b00010 else f

end Sys2Proof.Claim

/-- R350, R351, R352, R353: with the display enabled, n dots move the position n further in the frame of 70224 dots, and the mode is the one of the position. -/
def Obligations.DotsMoveThroughTheFrame : Prop :=
  ∀ (s : State) (n : Nat), s.lcd.RangeOk → s.lcd.ModeOk → s.lcd.enabled = true →
    let t := s.displayTick n
    Claim.position t.lcd = (Claim.position s.lcd + n) % 70224 ∧ t.lcd.mode = Claim.modeAt (Claim.position t.lcd) ∧
    t.lcd.enabled = true

/-- R369, R357, R353: with the display enabled throughout, 70224 dots from any position emit exactly one frame and request the VBlank interrupt. -/
def Obligations.OneFrameEvery70224Dots : Prop :=
  ∀ (s : State), s.lcd.RangeOk → s.lcd.ModeOk → s.lcd.enabled = true →
    ∃ f, (s.displayTick 70224).frames = s.frames ++ [f] ∧ FrameOk f ∧ (s.displayTick 70224).iflag.getLsbD 0 = true ∧
      Claim.position (s.displayTick 70224).lcd = Claim.position s.lcd

/-- R352 to R358: one dot with the display enabled. The position moves on; a new line re-evaluates the coincidence, and its rising edge with the enable
requests LCD-STAT; a change of mode runs the new mode's entry once: OAM, HBlank and VBlank request LCD-STAT when their source is
enabled, HBlank renders the line first, VBlank hands the frame over and requests its own interrupt, transfer does nothing. (The one
edge on coincidence and enable, and the rendering at HBlank entry, are the spec's decisions D18 and D20.) -/
def Obligations.DotsEnterModesOnce : Prop :=
  ∀ (s : State), s.lcd.RangeOk → s.lcd.enabled = true →
    let d := s.lcd
    let newLine := decide (d.dot = 455)
    let dot := if newLine then 0 else d.dot + 1
    let ly : Byte := if newLine then (if d.ly.toNat = 153 then 0 else d.ly + 1) else d.ly
    let coincidence := if newLine then decide (ly = d.lyc) else d.coincidence
    let mode := Claim.modeAt (ly.toNat * 456 + dot)
    let e := { d with dot := dot, ly := ly, coincidence := coincidence, mode := mode }
    let stat := Claim.withStat s.iflag (newLine && coincidence && Claim.lycSource d && !(d.coincidence && Claim.lycSource d))
    s.dotTick =
      if mode = d.mode then { s with lcd := e, iflag := stat }
      else
        match mode with
        | .oam => { s with lcd := e, iflag := Claim.withStat stat (Claim.oamSource d) }
        | .transfer => { s with lcd := e, iflag := stat }
        | .hblank => { s with lcd := renderLine e s.vram ly, iflag := Claim.withStat stat (Claim.hblankSource d) }
        | .vblank => { s with lcd := e, frames := s.frames ++ [d.frame],
                              iflag := Claim.withStat (stat ||| 0b00001) (Claim.vblankSource d) }

/-- R361 (the spec's decision D21): a dot with the display disabled forces LY, the dot and the mode, sets the coincidence flag silently and does nothing
else: no request, no rendering, no frame. -/
def Obligations.DisabledDisplayStandsStill : Prop :=
  ∀ (s : State) (n : Nat), s.lcd.enabled = false →
    s.displayTick (n + 1) =
      { s with lcd := { s.lcd with ly := 0, dot := 0, mode := .hblank, coincidence := decide (s.lcd.lyc = 0) } }

/-- R42, R358, R359, R360, R362, R363, R370: the display registers. LY is cleared by any write, LY and LYC writes test the coincidence, and a STAT write stores the four
enables only; the LYC source requests LCD-STAT on the rising edge of coincidence and enable together (the spec's decisions D18, D19 and D22). -/
def Obligations.DisplayRegistersReadAndWrite : Prop :=
  ∀ (s : State) (v : Byte),
    let d := s.lcd
    let line := d.coincidence && Claim.lycSource d
    (s.busRead 0xFF40 = d.lcdc ∧ s.busRead 0xFF42 = d.scy ∧ s.busRead 0xFF43 = d.scx ∧ s.busRead 0xFF44 = d.ly ∧
      s.busRead 0xFF45 = d.lyc ∧ s.busRead 0xFF47 = d.bgp ∧ s.busRead 0xFF48 = d.obp0 ∧ s.busRead 0xFF49 = d.obp1 ∧
      s.busRead 0xFF4A = d.wy ∧ s.busRead 0xFF4B = d.wx ∧
      s.busRead 0xFF41 = BitVec.ofNat 8 (0x80 + d.statEnables.toNat * 8 + d.coincidence.toNat * 4 +
        (match d.mode with | .hblank => 0 | .vblank => 1 | .oam => 2 | .transfer => 3))) ∧
    (s.busWrite 0xFF40 v = { s with lcd := { d with lcdc := v } } ∧ s.busWrite 0xFF42 v = { s with lcd := { d with scy := v } } ∧
      s.busWrite 0xFF43 v = { s with lcd := { d with scx := v } } ∧ s.busWrite 0xFF47 v = { s with lcd := { d with bgp := v } } ∧
      s.busWrite 0xFF48 v = { s with lcd := { d with obp0 := v } } ∧ s.busWrite 0xFF49 v = { s with lcd := { d with obp1 := v } } ∧
      s.busWrite 0xFF4A v = { s with lcd := { d with wy := v } } ∧ s.busWrite 0xFF4B v = { s with lcd := { d with wx := v } }) ∧
    s.busWrite 0xFF41 v = { s with lcd := { d with statEnables := BitVec.ofNat 4 (v.toNat / 8) },
                                   iflag := Claim.withStat s.iflag (d.coincidence && v.getLsbD 6 && !line) } ∧
    s.busWrite 0xFF44 v = { s with lcd := { d with ly := 0, coincidence := decide (d.lyc = 0) },
                                   iflag := Claim.withStat s.iflag (decide (d.lyc = 0) && Claim.lycSource d && !line) } ∧
    s.busWrite 0xFF45 v = { s with lcd := { d with lyc := v, coincidence := decide (d.ly = v) },
                                   iflag := Claim.withStat s.iflag (decide (d.ly = v) && Claim.lycSource d && !line) }

/-- R364, R365, R366, R367, R368: the pixels of a rendered line: the background through the tile map and the tile data LCDC selects, scrolled by SCX and SCY, mapped through
BGP to a gray level; white when LCDC bit 0 is clear; and no other line changes. (The packing of a pixel, with alpha in bits 31:24, is the spec's
decision D34, log entry 15.) -/
def Obligations.RendererDrawsTheBackground : Prop :=
  ∀ (d : Lcd) (vram : Memory) (ly : Byte), FrameOk d.frame → ly.toNat < 144 →
    let f := (renderLine d vram ly).frame
    (∀ y, y ≠ ly.toNat → f[y]? = d.frame[y]?) ∧
    (d.lcdc.getLsbD 0 = false → f[ly.toNat]? = some (List.replicate 160 0xFFFFFFFF)) ∧
    (d.lcdc.getLsbD 0 = true → ∀ x, x < 160 →
      let y := (ly.toNat + d.scy.toNat) % 256
      let mx := (x + d.scx.toNat) % 256
      let map := if d.lcdc.getLsbD 3 then 0x1C00 else 0x1800
      let idx := (vram.read (map + y / 8 * 32 + mx / 8)).toNat
      let base := if d.lcdc.getLsbD 4 then idx * 16 else 0x0800 + (if idx < 128 then idx + 128 else idx - 128) * 16
      let lo := (vram.read (base + y % 8 * 2)).toNat
      let hi := (vram.read (base + y % 8 * 2 + 1)).toNat
      let b := 2 ^ (7 - mx % 8)
      let id := hi / b % 2 * 2 + lo / b % 2
      let shade := d.bgp.toNat / 4 ^ id % 4
      let g := 255 - 85 * shade
      (f[ly.toNat]?.bind (fun row => row[x]?)) = some (BitVec.ofNat 32 (0xFF000000 + g * 65536 + g * 256 + g)))
end

