-- ==== Sys2Proof/Laws/State.lean ====
section
/-! SUPPORT. What each small update of the state does to each of its fields, true by `rfl`, so that no later proof unfolds a record
update. The updates that write registers or flags change `regs` or `flags` only; their values are read through `State.reg`. -/
namespace Sys2Proof.Machine

/-! ## Registers and flags -/

@[simp] theorem setReg_flags (s : State) (r : R8) (v : Byte) : (s.setReg r v).flags = s.flags := rfl
@[simp] theorem setReg_sp (s : State) (r : R8) (v : Byte) : (s.setReg r v).sp = s.sp := rfl
@[simp] theorem setReg_pc (s : State) (r : R8) (v : Byte) : (s.setReg r v).pc = s.pc := rfl
@[simp] theorem setReg_ime (s : State) (r : R8) (v : Byte) : (s.setReg r v).ime = s.ime := rfl
@[simp] theorem setReg_eiDelay (s : State) (r : R8) (v : Byte) : (s.setReg r v).eiDelay = s.eiDelay := rfl
@[simp] theorem setReg_haltBug (s : State) (r : R8) (v : Byte) : (s.setReg r v).haltBug = s.haltBug := rfl
@[simp] theorem setReg_halted (s : State) (r : R8) (v : Byte) : (s.setReg r v).halted = s.halted := rfl
@[simp] theorem setReg_inflight (s : State) (r : R8) (v : Byte) : (s.setReg r v).inflight = s.inflight := rfl
@[simp] theorem setReg_latches (s : State) (r : R8) (v : Byte) : (s.setReg r v).latches = s.latches := rfl
@[simp] theorem setReg_clock (s : State) (r : R8) (v : Byte) : (s.setReg r v).clock = s.clock := rfl
@[simp] theorem setReg_diagnostics (s : State) (r : R8) (v : Byte) : (s.setReg r v).diagnostics = s.diagnostics := rfl
@[simp] theorem setReg_ie (s : State) (r : R8) (v : Byte) : (s.setReg r v).ie = s.ie := rfl
@[simp] theorem setReg_iflag (s : State) (r : R8) (v : Byte) : (s.setReg r v).iflag = s.iflag := rfl
@[simp] theorem setReg_timer (s : State) (r : R8) (v : Byte) : (s.setReg r v).timer = s.timer := rfl
@[simp] theorem setReg_lcd (s : State) (r : R8) (v : Byte) : (s.setReg r v).lcd = s.lcd := rfl
@[simp] theorem setReg_frames (s : State) (r : R8) (v : Byte) : (s.setReg r v).frames = s.frames := rfl
@[simp] theorem setReg_vram (s : State) (r : R8) (v : Byte) : (s.setReg r v).vram = s.vram := rfl
@[simp] theorem setReg_wram (s : State) (r : R8) (v : Byte) : (s.setReg r v).wram = s.wram := rfl
@[simp] theorem setReg_oam (s : State) (r : R8) (v : Byte) : (s.setReg r v).oam = s.oam := rfl
@[simp] theorem setReg_hram (s : State) (r : R8) (v : Byte) : (s.setReg r v).hram = s.hram := rfl
@[simp] theorem setReg_eram (s : State) (r : R8) (v : Byte) : (s.setReg r v).eram = s.eram := rfl
@[simp] theorem setReg_dma (s : State) (r : R8) (v : Byte) : (s.setReg r v).dma = s.dma := rfl
@[simp] theorem setReg_bootEnabled (s : State) (r : R8) (v : Byte) : (s.setReg r v).bootEnabled = s.bootEnabled := rfl
@[simp] theorem setReg_mbc1 (s : State) (r : R8) (v : Byte) : (s.setReg r v).mbc1 = s.mbc1 := rfl
@[simp] theorem setReg_joySelect (s : State) (r : R8) (v : Byte) : (s.setReg r v).joySelect = s.joySelect := rfl
@[simp] theorem setReg_params (s : State) (r : R8) (v : Byte) : (s.setReg r v).params = s.params := rfl

@[simp] theorem setFlags_regs (s : State) (f : Flags) : (s.setFlags f).regs = s.regs := rfl
@[simp] theorem setFlags_sp (s : State) (f : Flags) : (s.setFlags f).sp = s.sp := rfl
@[simp] theorem setFlags_pc (s : State) (f : Flags) : (s.setFlags f).pc = s.pc := rfl
@[simp] theorem setFlags_ime (s : State) (f : Flags) : (s.setFlags f).ime = s.ime := rfl
@[simp] theorem setFlags_eiDelay (s : State) (f : Flags) : (s.setFlags f).eiDelay = s.eiDelay := rfl
@[simp] theorem setFlags_haltBug (s : State) (f : Flags) : (s.setFlags f).haltBug = s.haltBug := rfl
@[simp] theorem setFlags_halted (s : State) (f : Flags) : (s.setFlags f).halted = s.halted := rfl
@[simp] theorem setFlags_inflight (s : State) (f : Flags) : (s.setFlags f).inflight = s.inflight := rfl
@[simp] theorem setFlags_latches (s : State) (f : Flags) : (s.setFlags f).latches = s.latches := rfl
@[simp] theorem setFlags_clock (s : State) (f : Flags) : (s.setFlags f).clock = s.clock := rfl
@[simp] theorem setFlags_diagnostics (s : State) (f : Flags) : (s.setFlags f).diagnostics = s.diagnostics := rfl
@[simp] theorem setFlags_ie (s : State) (f : Flags) : (s.setFlags f).ie = s.ie := rfl
@[simp] theorem setFlags_iflag (s : State) (f : Flags) : (s.setFlags f).iflag = s.iflag := rfl
@[simp] theorem setFlags_timer (s : State) (f : Flags) : (s.setFlags f).timer = s.timer := rfl
@[simp] theorem setFlags_lcd (s : State) (f : Flags) : (s.setFlags f).lcd = s.lcd := rfl
@[simp] theorem setFlags_frames (s : State) (f : Flags) : (s.setFlags f).frames = s.frames := rfl
@[simp] theorem setFlags_vram (s : State) (f : Flags) : (s.setFlags f).vram = s.vram := rfl
@[simp] theorem setFlags_wram (s : State) (f : Flags) : (s.setFlags f).wram = s.wram := rfl
@[simp] theorem setFlags_oam (s : State) (f : Flags) : (s.setFlags f).oam = s.oam := rfl
@[simp] theorem setFlags_hram (s : State) (f : Flags) : (s.setFlags f).hram = s.hram := rfl
@[simp] theorem setFlags_eram (s : State) (f : Flags) : (s.setFlags f).eram = s.eram := rfl
@[simp] theorem setFlags_dma (s : State) (f : Flags) : (s.setFlags f).dma = s.dma := rfl
@[simp] theorem setFlags_bootEnabled (s : State) (f : Flags) : (s.setFlags f).bootEnabled = s.bootEnabled := rfl
@[simp] theorem setFlags_mbc1 (s : State) (f : Flags) : (s.setFlags f).mbc1 = s.mbc1 := rfl
@[simp] theorem setFlags_joySelect (s : State) (f : Flags) : (s.setFlags f).joySelect = s.joySelect := rfl
@[simp] theorem setFlags_params (s : State) (f : Flags) : (s.setFlags f).params = s.params := rfl

@[simp] theorem setHl_flags (s : State) (v : Word) : (s.setHl v).flags = s.flags := rfl
@[simp] theorem setHl_sp (s : State) (v : Word) : (s.setHl v).sp = s.sp := rfl
@[simp] theorem setHl_pc (s : State) (v : Word) : (s.setHl v).pc = s.pc := rfl
@[simp] theorem setHl_ime (s : State) (v : Word) : (s.setHl v).ime = s.ime := rfl
@[simp] theorem setHl_eiDelay (s : State) (v : Word) : (s.setHl v).eiDelay = s.eiDelay := rfl
@[simp] theorem setHl_haltBug (s : State) (v : Word) : (s.setHl v).haltBug = s.haltBug := rfl
@[simp] theorem setHl_halted (s : State) (v : Word) : (s.setHl v).halted = s.halted := rfl
@[simp] theorem setHl_inflight (s : State) (v : Word) : (s.setHl v).inflight = s.inflight := rfl
@[simp] theorem setHl_latches (s : State) (v : Word) : (s.setHl v).latches = s.latches := rfl
@[simp] theorem setHl_clock (s : State) (v : Word) : (s.setHl v).clock = s.clock := rfl
@[simp] theorem setHl_diagnostics (s : State) (v : Word) : (s.setHl v).diagnostics = s.diagnostics := rfl
@[simp] theorem setHl_ie (s : State) (v : Word) : (s.setHl v).ie = s.ie := rfl
@[simp] theorem setHl_iflag (s : State) (v : Word) : (s.setHl v).iflag = s.iflag := rfl
@[simp] theorem setHl_timer (s : State) (v : Word) : (s.setHl v).timer = s.timer := rfl
@[simp] theorem setHl_lcd (s : State) (v : Word) : (s.setHl v).lcd = s.lcd := rfl
@[simp] theorem setHl_frames (s : State) (v : Word) : (s.setHl v).frames = s.frames := rfl
@[simp] theorem setHl_vram (s : State) (v : Word) : (s.setHl v).vram = s.vram := rfl
@[simp] theorem setHl_wram (s : State) (v : Word) : (s.setHl v).wram = s.wram := rfl
@[simp] theorem setHl_oam (s : State) (v : Word) : (s.setHl v).oam = s.oam := rfl
@[simp] theorem setHl_hram (s : State) (v : Word) : (s.setHl v).hram = s.hram := rfl
@[simp] theorem setHl_eram (s : State) (v : Word) : (s.setHl v).eram = s.eram := rfl
@[simp] theorem setHl_dma (s : State) (v : Word) : (s.setHl v).dma = s.dma := rfl
@[simp] theorem setHl_bootEnabled (s : State) (v : Word) : (s.setHl v).bootEnabled = s.bootEnabled := rfl
@[simp] theorem setHl_mbc1 (s : State) (v : Word) : (s.setHl v).mbc1 = s.mbc1 := rfl
@[simp] theorem setHl_joySelect (s : State) (v : Word) : (s.setHl v).joySelect = s.joySelect := rfl
@[simp] theorem setHl_params (s : State) (v : Word) : (s.setHl v).params = s.params := rfl

@[simp] theorem setPair_flags (s : State) (p : Pair) (v : Word) : (s.setPair p v).flags = s.flags := by cases p <;> rfl
@[simp] theorem setPair_pc (s : State) (p : Pair) (v : Word) : (s.setPair p v).pc = s.pc := by cases p <;> rfl
@[simp] theorem setPair_ime (s : State) (p : Pair) (v : Word) : (s.setPair p v).ime = s.ime := by cases p <;> rfl
@[simp] theorem setPair_eiDelay (s : State) (p : Pair) (v : Word) : (s.setPair p v).eiDelay = s.eiDelay := by cases p <;> rfl
@[simp] theorem setPair_haltBug (s : State) (p : Pair) (v : Word) : (s.setPair p v).haltBug = s.haltBug := by cases p <;> rfl
@[simp] theorem setPair_halted (s : State) (p : Pair) (v : Word) : (s.setPair p v).halted = s.halted := by cases p <;> rfl
@[simp] theorem setPair_inflight (s : State) (p : Pair) (v : Word) : (s.setPair p v).inflight = s.inflight := by cases p <;> rfl
@[simp] theorem setPair_latches (s : State) (p : Pair) (v : Word) : (s.setPair p v).latches = s.latches := by cases p <;> rfl
@[simp] theorem setPair_clock (s : State) (p : Pair) (v : Word) : (s.setPair p v).clock = s.clock := by cases p <;> rfl
@[simp] theorem setPair_diagnostics (s : State) (p : Pair) (v : Word) : (s.setPair p v).diagnostics = s.diagnostics := by cases p <;> rfl
@[simp] theorem setPair_ie (s : State) (p : Pair) (v : Word) : (s.setPair p v).ie = s.ie := by cases p <;> rfl
@[simp] theorem setPair_iflag (s : State) (p : Pair) (v : Word) : (s.setPair p v).iflag = s.iflag := by cases p <;> rfl
@[simp] theorem setPair_timer (s : State) (p : Pair) (v : Word) : (s.setPair p v).timer = s.timer := by cases p <;> rfl
@[simp] theorem setPair_lcd (s : State) (p : Pair) (v : Word) : (s.setPair p v).lcd = s.lcd := by cases p <;> rfl
@[simp] theorem setPair_frames (s : State) (p : Pair) (v : Word) : (s.setPair p v).frames = s.frames := by cases p <;> rfl
@[simp] theorem setPair_vram (s : State) (p : Pair) (v : Word) : (s.setPair p v).vram = s.vram := by cases p <;> rfl
@[simp] theorem setPair_wram (s : State) (p : Pair) (v : Word) : (s.setPair p v).wram = s.wram := by cases p <;> rfl
@[simp] theorem setPair_oam (s : State) (p : Pair) (v : Word) : (s.setPair p v).oam = s.oam := by cases p <;> rfl
@[simp] theorem setPair_hram (s : State) (p : Pair) (v : Word) : (s.setPair p v).hram = s.hram := by cases p <;> rfl
@[simp] theorem setPair_eram (s : State) (p : Pair) (v : Word) : (s.setPair p v).eram = s.eram := by cases p <;> rfl
@[simp] theorem setPair_dma (s : State) (p : Pair) (v : Word) : (s.setPair p v).dma = s.dma := by cases p <;> rfl
@[simp] theorem setPair_bootEnabled (s : State) (p : Pair) (v : Word) : (s.setPair p v).bootEnabled = s.bootEnabled := by cases p <;> rfl
@[simp] theorem setPair_mbc1 (s : State) (p : Pair) (v : Word) : (s.setPair p v).mbc1 = s.mbc1 := by cases p <;> rfl
@[simp] theorem setPair_joySelect (s : State) (p : Pair) (v : Word) : (s.setPair p v).joySelect = s.joySelect := by cases p <;> rfl
@[simp] theorem setPair_params (s : State) (p : Pair) (v : Word) : (s.setPair p v).params = s.params := by cases p <;> rfl

@[simp] theorem setStackPair_sp (s : State) (p : StackPair) (v : Word) : (s.setStackPair p v).sp = s.sp := by cases p <;> rfl
@[simp] theorem setStackPair_pc (s : State) (p : StackPair) (v : Word) : (s.setStackPair p v).pc = s.pc := by cases p <;> rfl
@[simp] theorem setStackPair_ime (s : State) (p : StackPair) (v : Word) : (s.setStackPair p v).ime = s.ime := by cases p <;> rfl
@[simp] theorem setStackPair_eiDelay (s : State) (p : StackPair) (v : Word) : (s.setStackPair p v).eiDelay = s.eiDelay := by cases p <;> rfl
@[simp] theorem setStackPair_haltBug (s : State) (p : StackPair) (v : Word) : (s.setStackPair p v).haltBug = s.haltBug := by cases p <;> rfl
@[simp] theorem setStackPair_halted (s : State) (p : StackPair) (v : Word) : (s.setStackPair p v).halted = s.halted := by cases p <;> rfl
@[simp] theorem setStackPair_inflight (s : State) (p : StackPair) (v : Word) : (s.setStackPair p v).inflight = s.inflight := by cases p <;> rfl
@[simp] theorem setStackPair_latches (s : State) (p : StackPair) (v : Word) : (s.setStackPair p v).latches = s.latches := by cases p <;> rfl
@[simp] theorem setStackPair_clock (s : State) (p : StackPair) (v : Word) : (s.setStackPair p v).clock = s.clock := by cases p <;> rfl
@[simp] theorem setStackPair_diagnostics (s : State) (p : StackPair) (v : Word) : (s.setStackPair p v).diagnostics = s.diagnostics := by cases p <;> rfl
@[simp] theorem setStackPair_ie (s : State) (p : StackPair) (v : Word) : (s.setStackPair p v).ie = s.ie := by cases p <;> rfl
@[simp] theorem setStackPair_iflag (s : State) (p : StackPair) (v : Word) : (s.setStackPair p v).iflag = s.iflag := by cases p <;> rfl
@[simp] theorem setStackPair_timer (s : State) (p : StackPair) (v : Word) : (s.setStackPair p v).timer = s.timer := by cases p <;> rfl
@[simp] theorem setStackPair_lcd (s : State) (p : StackPair) (v : Word) : (s.setStackPair p v).lcd = s.lcd := by cases p <;> rfl
@[simp] theorem setStackPair_frames (s : State) (p : StackPair) (v : Word) : (s.setStackPair p v).frames = s.frames := by cases p <;> rfl
@[simp] theorem setStackPair_vram (s : State) (p : StackPair) (v : Word) : (s.setStackPair p v).vram = s.vram := by cases p <;> rfl
@[simp] theorem setStackPair_wram (s : State) (p : StackPair) (v : Word) : (s.setStackPair p v).wram = s.wram := by cases p <;> rfl
@[simp] theorem setStackPair_oam (s : State) (p : StackPair) (v : Word) : (s.setStackPair p v).oam = s.oam := by cases p <;> rfl
@[simp] theorem setStackPair_hram (s : State) (p : StackPair) (v : Word) : (s.setStackPair p v).hram = s.hram := by cases p <;> rfl
@[simp] theorem setStackPair_eram (s : State) (p : StackPair) (v : Word) : (s.setStackPair p v).eram = s.eram := by cases p <;> rfl
@[simp] theorem setStackPair_dma (s : State) (p : StackPair) (v : Word) : (s.setStackPair p v).dma = s.dma := by cases p <;> rfl
@[simp] theorem setStackPair_bootEnabled (s : State) (p : StackPair) (v : Word) : (s.setStackPair p v).bootEnabled = s.bootEnabled := by cases p <;> rfl
@[simp] theorem setStackPair_mbc1 (s : State) (p : StackPair) (v : Word) : (s.setStackPair p v).mbc1 = s.mbc1 := by cases p <;> rfl
@[simp] theorem setStackPair_joySelect (s : State) (p : StackPair) (v : Word) : (s.setStackPair p v).joySelect = s.joySelect := by cases p <;> rfl
@[simp] theorem setStackPair_params (s : State) (p : StackPair) (v : Word) : (s.setStackPair p v).params = s.params := by cases p <;> rfl

@[simp] theorem setFlags_flags (s : State) (f : Flags) : (s.setFlags f).flags = f := rfl
@[simp] theorem setFlags_reg (s : State) (f : Flags) (r : R8) : (s.setFlags f).reg r = s.reg r := by cases r <;> rfl
@[simp] theorem setFlags_hl (s : State) (f : Flags) : (s.setFlags f).hl = s.hl := rfl

/-- A register write changes that register and no other. -/
@[simp] theorem setReg_reg (s : State) (r q : R8) (v : Byte) : (s.setReg r v).reg q = if r = q then v else s.reg q := by
  cases r <;> cases q <;> rfl

/-- A write of HL changes H and L. -/
theorem setHl_reg (s : State) (v : Word) (q : R8) :
    (s.setHl v).reg q = if q = .h then hiByte v else if q = .l then loByte v else s.reg q := by cases q <;> rfl

/-! ## Interrupt bits -/

@[simp] theorem request_regs (s : State) (i : Nat) : (s.request i).regs = s.regs := rfl
@[simp] theorem request_flags (s : State) (i : Nat) : (s.request i).flags = s.flags := rfl
@[simp] theorem request_sp (s : State) (i : Nat) : (s.request i).sp = s.sp := rfl
@[simp] theorem request_pc (s : State) (i : Nat) : (s.request i).pc = s.pc := rfl
@[simp] theorem request_ime (s : State) (i : Nat) : (s.request i).ime = s.ime := rfl
@[simp] theorem request_eiDelay (s : State) (i : Nat) : (s.request i).eiDelay = s.eiDelay := rfl
@[simp] theorem request_haltBug (s : State) (i : Nat) : (s.request i).haltBug = s.haltBug := rfl
@[simp] theorem request_halted (s : State) (i : Nat) : (s.request i).halted = s.halted := rfl
@[simp] theorem request_inflight (s : State) (i : Nat) : (s.request i).inflight = s.inflight := rfl
@[simp] theorem request_latches (s : State) (i : Nat) : (s.request i).latches = s.latches := rfl
@[simp] theorem request_clock (s : State) (i : Nat) : (s.request i).clock = s.clock := rfl
@[simp] theorem request_diagnostics (s : State) (i : Nat) : (s.request i).diagnostics = s.diagnostics := rfl
@[simp] theorem request_ie (s : State) (i : Nat) : (s.request i).ie = s.ie := rfl
@[simp] theorem request_timer (s : State) (i : Nat) : (s.request i).timer = s.timer := rfl
@[simp] theorem request_lcd (s : State) (i : Nat) : (s.request i).lcd = s.lcd := rfl
@[simp] theorem request_frames (s : State) (i : Nat) : (s.request i).frames = s.frames := rfl
@[simp] theorem request_vram (s : State) (i : Nat) : (s.request i).vram = s.vram := rfl
@[simp] theorem request_wram (s : State) (i : Nat) : (s.request i).wram = s.wram := rfl
@[simp] theorem request_oam (s : State) (i : Nat) : (s.request i).oam = s.oam := rfl
@[simp] theorem request_hram (s : State) (i : Nat) : (s.request i).hram = s.hram := rfl
@[simp] theorem request_eram (s : State) (i : Nat) : (s.request i).eram = s.eram := rfl
@[simp] theorem request_dma (s : State) (i : Nat) : (s.request i).dma = s.dma := rfl
@[simp] theorem request_bootEnabled (s : State) (i : Nat) : (s.request i).bootEnabled = s.bootEnabled := rfl
@[simp] theorem request_mbc1 (s : State) (i : Nat) : (s.request i).mbc1 = s.mbc1 := rfl
@[simp] theorem request_joySelect (s : State) (i : Nat) : (s.request i).joySelect = s.joySelect := rfl
@[simp] theorem request_params (s : State) (i : Nat) : (s.request i).params = s.params := rfl

@[simp] theorem acknowledge_regs (s : State) (i : Nat) : (s.acknowledge i).regs = s.regs := rfl
@[simp] theorem acknowledge_flags (s : State) (i : Nat) : (s.acknowledge i).flags = s.flags := rfl
@[simp] theorem acknowledge_sp (s : State) (i : Nat) : (s.acknowledge i).sp = s.sp := rfl
@[simp] theorem acknowledge_pc (s : State) (i : Nat) : (s.acknowledge i).pc = s.pc := rfl
@[simp] theorem acknowledge_ime (s : State) (i : Nat) : (s.acknowledge i).ime = s.ime := rfl
@[simp] theorem acknowledge_eiDelay (s : State) (i : Nat) : (s.acknowledge i).eiDelay = s.eiDelay := rfl
@[simp] theorem acknowledge_haltBug (s : State) (i : Nat) : (s.acknowledge i).haltBug = s.haltBug := rfl
@[simp] theorem acknowledge_halted (s : State) (i : Nat) : (s.acknowledge i).halted = s.halted := rfl
@[simp] theorem acknowledge_inflight (s : State) (i : Nat) : (s.acknowledge i).inflight = s.inflight := rfl
@[simp] theorem acknowledge_latches (s : State) (i : Nat) : (s.acknowledge i).latches = s.latches := rfl
@[simp] theorem acknowledge_clock (s : State) (i : Nat) : (s.acknowledge i).clock = s.clock := rfl
@[simp] theorem acknowledge_diagnostics (s : State) (i : Nat) : (s.acknowledge i).diagnostics = s.diagnostics := rfl
@[simp] theorem acknowledge_ie (s : State) (i : Nat) : (s.acknowledge i).ie = s.ie := rfl
@[simp] theorem acknowledge_timer (s : State) (i : Nat) : (s.acknowledge i).timer = s.timer := rfl
@[simp] theorem acknowledge_lcd (s : State) (i : Nat) : (s.acknowledge i).lcd = s.lcd := rfl
@[simp] theorem acknowledge_frames (s : State) (i : Nat) : (s.acknowledge i).frames = s.frames := rfl
@[simp] theorem acknowledge_vram (s : State) (i : Nat) : (s.acknowledge i).vram = s.vram := rfl
@[simp] theorem acknowledge_wram (s : State) (i : Nat) : (s.acknowledge i).wram = s.wram := rfl
@[simp] theorem acknowledge_oam (s : State) (i : Nat) : (s.acknowledge i).oam = s.oam := rfl
@[simp] theorem acknowledge_hram (s : State) (i : Nat) : (s.acknowledge i).hram = s.hram := rfl
@[simp] theorem acknowledge_eram (s : State) (i : Nat) : (s.acknowledge i).eram = s.eram := rfl
@[simp] theorem acknowledge_dma (s : State) (i : Nat) : (s.acknowledge i).dma = s.dma := rfl
@[simp] theorem acknowledge_bootEnabled (s : State) (i : Nat) : (s.acknowledge i).bootEnabled = s.bootEnabled := rfl
@[simp] theorem acknowledge_mbc1 (s : State) (i : Nat) : (s.acknowledge i).mbc1 = s.mbc1 := rfl
@[simp] theorem acknowledge_joySelect (s : State) (i : Nat) : (s.acknowledge i).joySelect = s.joySelect := rfl
@[simp] theorem acknowledge_params (s : State) (i : Nat) : (s.acknowledge i).params = s.params := rfl

@[simp] theorem requestStat_regs (s : State) (c : Bool) : (s.requestStat c).regs = s.regs := by cases c <;> rfl
@[simp] theorem requestStat_flags (s : State) (c : Bool) : (s.requestStat c).flags = s.flags := by cases c <;> rfl
@[simp] theorem requestStat_sp (s : State) (c : Bool) : (s.requestStat c).sp = s.sp := by cases c <;> rfl
@[simp] theorem requestStat_pc (s : State) (c : Bool) : (s.requestStat c).pc = s.pc := by cases c <;> rfl
@[simp] theorem requestStat_ime (s : State) (c : Bool) : (s.requestStat c).ime = s.ime := by cases c <;> rfl
@[simp] theorem requestStat_eiDelay (s : State) (c : Bool) : (s.requestStat c).eiDelay = s.eiDelay := by cases c <;> rfl
@[simp] theorem requestStat_haltBug (s : State) (c : Bool) : (s.requestStat c).haltBug = s.haltBug := by cases c <;> rfl
@[simp] theorem requestStat_halted (s : State) (c : Bool) : (s.requestStat c).halted = s.halted := by cases c <;> rfl
@[simp] theorem requestStat_inflight (s : State) (c : Bool) : (s.requestStat c).inflight = s.inflight := by cases c <;> rfl
@[simp] theorem requestStat_latches (s : State) (c : Bool) : (s.requestStat c).latches = s.latches := by cases c <;> rfl
@[simp] theorem requestStat_clock (s : State) (c : Bool) : (s.requestStat c).clock = s.clock := by cases c <;> rfl
@[simp] theorem requestStat_diagnostics (s : State) (c : Bool) : (s.requestStat c).diagnostics = s.diagnostics := by cases c <;> rfl
@[simp] theorem requestStat_ie (s : State) (c : Bool) : (s.requestStat c).ie = s.ie := by cases c <;> rfl
@[simp] theorem requestStat_timer (s : State) (c : Bool) : (s.requestStat c).timer = s.timer := by cases c <;> rfl
@[simp] theorem requestStat_lcd (s : State) (c : Bool) : (s.requestStat c).lcd = s.lcd := by cases c <;> rfl
@[simp] theorem requestStat_frames (s : State) (c : Bool) : (s.requestStat c).frames = s.frames := by cases c <;> rfl
@[simp] theorem requestStat_vram (s : State) (c : Bool) : (s.requestStat c).vram = s.vram := by cases c <;> rfl
@[simp] theorem requestStat_wram (s : State) (c : Bool) : (s.requestStat c).wram = s.wram := by cases c <;> rfl
@[simp] theorem requestStat_oam (s : State) (c : Bool) : (s.requestStat c).oam = s.oam := by cases c <;> rfl
@[simp] theorem requestStat_hram (s : State) (c : Bool) : (s.requestStat c).hram = s.hram := by cases c <;> rfl
@[simp] theorem requestStat_eram (s : State) (c : Bool) : (s.requestStat c).eram = s.eram := by cases c <;> rfl
@[simp] theorem requestStat_dma (s : State) (c : Bool) : (s.requestStat c).dma = s.dma := by cases c <;> rfl
@[simp] theorem requestStat_bootEnabled (s : State) (c : Bool) : (s.requestStat c).bootEnabled = s.bootEnabled := by cases c <;> rfl
@[simp] theorem requestStat_mbc1 (s : State) (c : Bool) : (s.requestStat c).mbc1 = s.mbc1 := by cases c <;> rfl
@[simp] theorem requestStat_joySelect (s : State) (c : Bool) : (s.requestStat c).joySelect = s.joySelect := by cases c <;> rfl
@[simp] theorem requestStat_params (s : State) (c : Bool) : (s.requestStat c).params = s.params := by cases c <;> rfl

/-! ## Latches and engine control -/

@[simp] theorem readT_regs (s : State) : (s.readT).regs = s.regs := rfl
@[simp] theorem readT_flags (s : State) : (s.readT).flags = s.flags := rfl
@[simp] theorem readT_sp (s : State) : (s.readT).sp = s.sp := rfl
@[simp] theorem readT_pc (s : State) : (s.readT).pc = s.pc := rfl
@[simp] theorem readT_ime (s : State) : (s.readT).ime = s.ime := rfl
@[simp] theorem readT_eiDelay (s : State) : (s.readT).eiDelay = s.eiDelay := rfl
@[simp] theorem readT_haltBug (s : State) : (s.readT).haltBug = s.haltBug := rfl
@[simp] theorem readT_halted (s : State) : (s.readT).halted = s.halted := rfl
@[simp] theorem readT_inflight (s : State) : (s.readT).inflight = s.inflight := rfl
@[simp] theorem readT_clock (s : State) : (s.readT).clock = s.clock := rfl
@[simp] theorem readT_diagnostics (s : State) : (s.readT).diagnostics = s.diagnostics := rfl
@[simp] theorem readT_ie (s : State) : (s.readT).ie = s.ie := rfl
@[simp] theorem readT_iflag (s : State) : (s.readT).iflag = s.iflag := rfl
@[simp] theorem readT_timer (s : State) : (s.readT).timer = s.timer := rfl
@[simp] theorem readT_lcd (s : State) : (s.readT).lcd = s.lcd := rfl
@[simp] theorem readT_frames (s : State) : (s.readT).frames = s.frames := rfl
@[simp] theorem readT_vram (s : State) : (s.readT).vram = s.vram := rfl
@[simp] theorem readT_wram (s : State) : (s.readT).wram = s.wram := rfl
@[simp] theorem readT_oam (s : State) : (s.readT).oam = s.oam := rfl
@[simp] theorem readT_hram (s : State) : (s.readT).hram = s.hram := rfl
@[simp] theorem readT_eram (s : State) : (s.readT).eram = s.eram := rfl
@[simp] theorem readT_dma (s : State) : (s.readT).dma = s.dma := rfl
@[simp] theorem readT_bootEnabled (s : State) : (s.readT).bootEnabled = s.bootEnabled := rfl
@[simp] theorem readT_mbc1 (s : State) : (s.readT).mbc1 = s.mbc1 := rfl
@[simp] theorem readT_joySelect (s : State) : (s.readT).joySelect = s.joySelect := rfl
@[simp] theorem readT_params (s : State) : (s.readT).params = s.params := rfl

@[simp] theorem popLo_regs (s : State) : (s.popLo).regs = s.regs := rfl
@[simp] theorem popLo_flags (s : State) : (s.popLo).flags = s.flags := rfl
@[simp] theorem popLo_pc (s : State) : (s.popLo).pc = s.pc := rfl
@[simp] theorem popLo_ime (s : State) : (s.popLo).ime = s.ime := rfl
@[simp] theorem popLo_eiDelay (s : State) : (s.popLo).eiDelay = s.eiDelay := rfl
@[simp] theorem popLo_haltBug (s : State) : (s.popLo).haltBug = s.haltBug := rfl
@[simp] theorem popLo_halted (s : State) : (s.popLo).halted = s.halted := rfl
@[simp] theorem popLo_inflight (s : State) : (s.popLo).inflight = s.inflight := rfl
@[simp] theorem popLo_clock (s : State) : (s.popLo).clock = s.clock := rfl
@[simp] theorem popLo_diagnostics (s : State) : (s.popLo).diagnostics = s.diagnostics := rfl
@[simp] theorem popLo_ie (s : State) : (s.popLo).ie = s.ie := rfl
@[simp] theorem popLo_iflag (s : State) : (s.popLo).iflag = s.iflag := rfl
@[simp] theorem popLo_timer (s : State) : (s.popLo).timer = s.timer := rfl
@[simp] theorem popLo_lcd (s : State) : (s.popLo).lcd = s.lcd := rfl
@[simp] theorem popLo_frames (s : State) : (s.popLo).frames = s.frames := rfl
@[simp] theorem popLo_vram (s : State) : (s.popLo).vram = s.vram := rfl
@[simp] theorem popLo_wram (s : State) : (s.popLo).wram = s.wram := rfl
@[simp] theorem popLo_oam (s : State) : (s.popLo).oam = s.oam := rfl
@[simp] theorem popLo_hram (s : State) : (s.popLo).hram = s.hram := rfl
@[simp] theorem popLo_eram (s : State) : (s.popLo).eram = s.eram := rfl
@[simp] theorem popLo_dma (s : State) : (s.popLo).dma = s.dma := rfl
@[simp] theorem popLo_bootEnabled (s : State) : (s.popLo).bootEnabled = s.bootEnabled := rfl
@[simp] theorem popLo_mbc1 (s : State) : (s.popLo).mbc1 = s.mbc1 := rfl
@[simp] theorem popLo_joySelect (s : State) : (s.popLo).joySelect = s.joySelect := rfl
@[simp] theorem popLo_params (s : State) : (s.popLo).params = s.params := rfl

@[simp] theorem popHi_regs (s : State) : (s.popHi).regs = s.regs := rfl
@[simp] theorem popHi_flags (s : State) : (s.popHi).flags = s.flags := rfl
@[simp] theorem popHi_pc (s : State) : (s.popHi).pc = s.pc := rfl
@[simp] theorem popHi_ime (s : State) : (s.popHi).ime = s.ime := rfl
@[simp] theorem popHi_eiDelay (s : State) : (s.popHi).eiDelay = s.eiDelay := rfl
@[simp] theorem popHi_haltBug (s : State) : (s.popHi).haltBug = s.haltBug := rfl
@[simp] theorem popHi_halted (s : State) : (s.popHi).halted = s.halted := rfl
@[simp] theorem popHi_inflight (s : State) : (s.popHi).inflight = s.inflight := rfl
@[simp] theorem popHi_clock (s : State) : (s.popHi).clock = s.clock := rfl
@[simp] theorem popHi_diagnostics (s : State) : (s.popHi).diagnostics = s.diagnostics := rfl
@[simp] theorem popHi_ie (s : State) : (s.popHi).ie = s.ie := rfl
@[simp] theorem popHi_iflag (s : State) : (s.popHi).iflag = s.iflag := rfl
@[simp] theorem popHi_timer (s : State) : (s.popHi).timer = s.timer := rfl
@[simp] theorem popHi_lcd (s : State) : (s.popHi).lcd = s.lcd := rfl
@[simp] theorem popHi_frames (s : State) : (s.popHi).frames = s.frames := rfl
@[simp] theorem popHi_vram (s : State) : (s.popHi).vram = s.vram := rfl
@[simp] theorem popHi_wram (s : State) : (s.popHi).wram = s.wram := rfl
@[simp] theorem popHi_oam (s : State) : (s.popHi).oam = s.oam := rfl
@[simp] theorem popHi_hram (s : State) : (s.popHi).hram = s.hram := rfl
@[simp] theorem popHi_eram (s : State) : (s.popHi).eram = s.eram := rfl
@[simp] theorem popHi_dma (s : State) : (s.popHi).dma = s.dma := rfl
@[simp] theorem popHi_bootEnabled (s : State) : (s.popHi).bootEnabled = s.bootEnabled := rfl
@[simp] theorem popHi_mbc1 (s : State) : (s.popHi).mbc1 = s.mbc1 := rfl
@[simp] theorem popHi_joySelect (s : State) : (s.popHi).joySelect = s.joySelect := rfl
@[simp] theorem popHi_params (s : State) : (s.popHi).params = s.params := rfl

@[simp] theorem latchLo_regs (s : State) (b : Byte) : (s.latchLo b).regs = s.regs := rfl
@[simp] theorem latchLo_flags (s : State) (b : Byte) : (s.latchLo b).flags = s.flags := rfl
@[simp] theorem latchLo_sp (s : State) (b : Byte) : (s.latchLo b).sp = s.sp := rfl
@[simp] theorem latchLo_pc (s : State) (b : Byte) : (s.latchLo b).pc = s.pc := rfl
@[simp] theorem latchLo_ime (s : State) (b : Byte) : (s.latchLo b).ime = s.ime := rfl
@[simp] theorem latchLo_eiDelay (s : State) (b : Byte) : (s.latchLo b).eiDelay = s.eiDelay := rfl
@[simp] theorem latchLo_haltBug (s : State) (b : Byte) : (s.latchLo b).haltBug = s.haltBug := rfl
@[simp] theorem latchLo_halted (s : State) (b : Byte) : (s.latchLo b).halted = s.halted := rfl
@[simp] theorem latchLo_inflight (s : State) (b : Byte) : (s.latchLo b).inflight = s.inflight := rfl
@[simp] theorem latchLo_clock (s : State) (b : Byte) : (s.latchLo b).clock = s.clock := rfl
@[simp] theorem latchLo_diagnostics (s : State) (b : Byte) : (s.latchLo b).diagnostics = s.diagnostics := rfl
@[simp] theorem latchLo_ie (s : State) (b : Byte) : (s.latchLo b).ie = s.ie := rfl
@[simp] theorem latchLo_iflag (s : State) (b : Byte) : (s.latchLo b).iflag = s.iflag := rfl
@[simp] theorem latchLo_timer (s : State) (b : Byte) : (s.latchLo b).timer = s.timer := rfl
@[simp] theorem latchLo_lcd (s : State) (b : Byte) : (s.latchLo b).lcd = s.lcd := rfl
@[simp] theorem latchLo_frames (s : State) (b : Byte) : (s.latchLo b).frames = s.frames := rfl
@[simp] theorem latchLo_vram (s : State) (b : Byte) : (s.latchLo b).vram = s.vram := rfl
@[simp] theorem latchLo_wram (s : State) (b : Byte) : (s.latchLo b).wram = s.wram := rfl
@[simp] theorem latchLo_oam (s : State) (b : Byte) : (s.latchLo b).oam = s.oam := rfl
@[simp] theorem latchLo_hram (s : State) (b : Byte) : (s.latchLo b).hram = s.hram := rfl
@[simp] theorem latchLo_eram (s : State) (b : Byte) : (s.latchLo b).eram = s.eram := rfl
@[simp] theorem latchLo_dma (s : State) (b : Byte) : (s.latchLo b).dma = s.dma := rfl
@[simp] theorem latchLo_bootEnabled (s : State) (b : Byte) : (s.latchLo b).bootEnabled = s.bootEnabled := rfl
@[simp] theorem latchLo_mbc1 (s : State) (b : Byte) : (s.latchLo b).mbc1 = s.mbc1 := rfl
@[simp] theorem latchLo_joySelect (s : State) (b : Byte) : (s.latchLo b).joySelect = s.joySelect := rfl
@[simp] theorem latchLo_params (s : State) (b : Byte) : (s.latchLo b).params = s.params := rfl

@[simp] theorem popLo_sp (s : State) : s.popLo.sp = s.sp + 1 := rfl
@[simp] theorem popHi_sp (s : State) : s.popHi.sp = s.sp + 1 := rfl
@[simp] theorem readT_t (s : State) : s.readT.latches.t = s.memRead s.hl := rfl
@[simp] theorem popLo_lo (s : State) : s.popLo.latches.lo = s.memRead s.sp := rfl
@[simp] theorem popHi_hi (s : State) : s.popHi.latches.hi = s.memRead s.sp := rfl
@[simp] theorem popHi_lo (s : State) : s.popHi.latches.lo = s.latches.lo := rfl

@[simp] theorem setResult_sp (s : State) (r : R8) (v : Byte × Flags) : (s.setResult r v).sp = s.sp := rfl
@[simp] theorem setResult_pc (s : State) (r : R8) (v : Byte × Flags) : (s.setResult r v).pc = s.pc := rfl
@[simp] theorem setResult_ime (s : State) (r : R8) (v : Byte × Flags) : (s.setResult r v).ime = s.ime := rfl
@[simp] theorem setResult_eiDelay (s : State) (r : R8) (v : Byte × Flags) : (s.setResult r v).eiDelay = s.eiDelay := rfl
@[simp] theorem setResult_haltBug (s : State) (r : R8) (v : Byte × Flags) : (s.setResult r v).haltBug = s.haltBug := rfl
@[simp] theorem setResult_halted (s : State) (r : R8) (v : Byte × Flags) : (s.setResult r v).halted = s.halted := rfl
@[simp] theorem setResult_inflight (s : State) (r : R8) (v : Byte × Flags) : (s.setResult r v).inflight = s.inflight := rfl
@[simp] theorem setResult_latches (s : State) (r : R8) (v : Byte × Flags) : (s.setResult r v).latches = s.latches := rfl
@[simp] theorem setResult_clock (s : State) (r : R8) (v : Byte × Flags) : (s.setResult r v).clock = s.clock := rfl
@[simp] theorem setResult_diagnostics (s : State) (r : R8) (v : Byte × Flags) : (s.setResult r v).diagnostics = s.diagnostics := rfl
@[simp] theorem setResult_ie (s : State) (r : R8) (v : Byte × Flags) : (s.setResult r v).ie = s.ie := rfl
@[simp] theorem setResult_iflag (s : State) (r : R8) (v : Byte × Flags) : (s.setResult r v).iflag = s.iflag := rfl
@[simp] theorem setResult_timer (s : State) (r : R8) (v : Byte × Flags) : (s.setResult r v).timer = s.timer := rfl
@[simp] theorem setResult_lcd (s : State) (r : R8) (v : Byte × Flags) : (s.setResult r v).lcd = s.lcd := rfl
@[simp] theorem setResult_frames (s : State) (r : R8) (v : Byte × Flags) : (s.setResult r v).frames = s.frames := rfl
@[simp] theorem setResult_vram (s : State) (r : R8) (v : Byte × Flags) : (s.setResult r v).vram = s.vram := rfl
@[simp] theorem setResult_wram (s : State) (r : R8) (v : Byte × Flags) : (s.setResult r v).wram = s.wram := rfl
@[simp] theorem setResult_oam (s : State) (r : R8) (v : Byte × Flags) : (s.setResult r v).oam = s.oam := rfl
@[simp] theorem setResult_hram (s : State) (r : R8) (v : Byte × Flags) : (s.setResult r v).hram = s.hram := rfl
@[simp] theorem setResult_eram (s : State) (r : R8) (v : Byte × Flags) : (s.setResult r v).eram = s.eram := rfl
@[simp] theorem setResult_dma (s : State) (r : R8) (v : Byte × Flags) : (s.setResult r v).dma = s.dma := rfl
@[simp] theorem setResult_bootEnabled (s : State) (r : R8) (v : Byte × Flags) : (s.setResult r v).bootEnabled = s.bootEnabled := rfl
@[simp] theorem setResult_mbc1 (s : State) (r : R8) (v : Byte × Flags) : (s.setResult r v).mbc1 = s.mbc1 := rfl
@[simp] theorem setResult_joySelect (s : State) (r : R8) (v : Byte × Flags) : (s.setResult r v).joySelect = s.joySelect := rfl
@[simp] theorem setResult_params (s : State) (r : R8) (v : Byte × Flags) : (s.setResult r v).params = s.params := rfl

@[simp] theorem returnFromInterrupt_regs (s : State) : (s.returnFromInterrupt).regs = s.regs := rfl
@[simp] theorem returnFromInterrupt_flags (s : State) : (s.returnFromInterrupt).flags = s.flags := rfl
@[simp] theorem returnFromInterrupt_sp (s : State) : (s.returnFromInterrupt).sp = s.sp := rfl
@[simp] theorem returnFromInterrupt_haltBug (s : State) : (s.returnFromInterrupt).haltBug = s.haltBug := rfl
@[simp] theorem returnFromInterrupt_halted (s : State) : (s.returnFromInterrupt).halted = s.halted := rfl
@[simp] theorem returnFromInterrupt_inflight (s : State) : (s.returnFromInterrupt).inflight = s.inflight := rfl
@[simp] theorem returnFromInterrupt_latches (s : State) : (s.returnFromInterrupt).latches = s.latches := rfl
@[simp] theorem returnFromInterrupt_clock (s : State) : (s.returnFromInterrupt).clock = s.clock := rfl
@[simp] theorem returnFromInterrupt_diagnostics (s : State) : (s.returnFromInterrupt).diagnostics = s.diagnostics := rfl
@[simp] theorem returnFromInterrupt_ie (s : State) : (s.returnFromInterrupt).ie = s.ie := rfl
@[simp] theorem returnFromInterrupt_iflag (s : State) : (s.returnFromInterrupt).iflag = s.iflag := rfl
@[simp] theorem returnFromInterrupt_timer (s : State) : (s.returnFromInterrupt).timer = s.timer := rfl
@[simp] theorem returnFromInterrupt_lcd (s : State) : (s.returnFromInterrupt).lcd = s.lcd := rfl
@[simp] theorem returnFromInterrupt_frames (s : State) : (s.returnFromInterrupt).frames = s.frames := rfl
@[simp] theorem returnFromInterrupt_vram (s : State) : (s.returnFromInterrupt).vram = s.vram := rfl
@[simp] theorem returnFromInterrupt_wram (s : State) : (s.returnFromInterrupt).wram = s.wram := rfl
@[simp] theorem returnFromInterrupt_oam (s : State) : (s.returnFromInterrupt).oam = s.oam := rfl
@[simp] theorem returnFromInterrupt_hram (s : State) : (s.returnFromInterrupt).hram = s.hram := rfl
@[simp] theorem returnFromInterrupt_eram (s : State) : (s.returnFromInterrupt).eram = s.eram := rfl
@[simp] theorem returnFromInterrupt_dma (s : State) : (s.returnFromInterrupt).dma = s.dma := rfl
@[simp] theorem returnFromInterrupt_bootEnabled (s : State) : (s.returnFromInterrupt).bootEnabled = s.bootEnabled := rfl
@[simp] theorem returnFromInterrupt_mbc1 (s : State) : (s.returnFromInterrupt).mbc1 = s.mbc1 := rfl
@[simp] theorem returnFromInterrupt_joySelect (s : State) : (s.returnFromInterrupt).joySelect = s.joySelect := rfl
@[simp] theorem returnFromInterrupt_params (s : State) : (s.returnFromInterrupt).params = s.params := rfl

@[simp] theorem armEi_regs (s : State) : s.armEi.regs = s.regs := by unfold State.armEi; split <;> rfl
@[simp] theorem armEi_flags (s : State) : s.armEi.flags = s.flags := by unfold State.armEi; split <;> rfl
@[simp] theorem armEi_sp (s : State) : s.armEi.sp = s.sp := by unfold State.armEi; split <;> rfl
@[simp] theorem armEi_pc (s : State) : s.armEi.pc = s.pc := by unfold State.armEi; split <;> rfl
@[simp] theorem armEi_ime (s : State) : s.armEi.ime = s.ime := by unfold State.armEi; split <;> rfl
@[simp] theorem armEi_haltBug (s : State) : s.armEi.haltBug = s.haltBug := by unfold State.armEi; split <;> rfl
@[simp] theorem armEi_halted (s : State) : s.armEi.halted = s.halted := by unfold State.armEi; split <;> rfl
@[simp] theorem armEi_inflight (s : State) : s.armEi.inflight = s.inflight := by unfold State.armEi; split <;> rfl
@[simp] theorem armEi_latches (s : State) : s.armEi.latches = s.latches := by unfold State.armEi; split <;> rfl
@[simp] theorem armEi_clock (s : State) : s.armEi.clock = s.clock := by unfold State.armEi; split <;> rfl
@[simp] theorem armEi_diagnostics (s : State) : s.armEi.diagnostics = s.diagnostics := by unfold State.armEi; split <;> rfl
@[simp] theorem armEi_ie (s : State) : s.armEi.ie = s.ie := by unfold State.armEi; split <;> rfl
@[simp] theorem armEi_iflag (s : State) : s.armEi.iflag = s.iflag := by unfold State.armEi; split <;> rfl
@[simp] theorem armEi_timer (s : State) : s.armEi.timer = s.timer := by unfold State.armEi; split <;> rfl
@[simp] theorem armEi_lcd (s : State) : s.armEi.lcd = s.lcd := by unfold State.armEi; split <;> rfl
@[simp] theorem armEi_frames (s : State) : s.armEi.frames = s.frames := by unfold State.armEi; split <;> rfl
@[simp] theorem armEi_vram (s : State) : s.armEi.vram = s.vram := by unfold State.armEi; split <;> rfl
@[simp] theorem armEi_wram (s : State) : s.armEi.wram = s.wram := by unfold State.armEi; split <;> rfl
@[simp] theorem armEi_oam (s : State) : s.armEi.oam = s.oam := by unfold State.armEi; split <;> rfl
@[simp] theorem armEi_hram (s : State) : s.armEi.hram = s.hram := by unfold State.armEi; split <;> rfl
@[simp] theorem armEi_eram (s : State) : s.armEi.eram = s.eram := by unfold State.armEi; split <;> rfl
@[simp] theorem armEi_dma (s : State) : s.armEi.dma = s.dma := by unfold State.armEi; split <;> rfl
@[simp] theorem armEi_bootEnabled (s : State) : s.armEi.bootEnabled = s.bootEnabled := by unfold State.armEi; split <;> rfl
@[simp] theorem armEi_mbc1 (s : State) : s.armEi.mbc1 = s.mbc1 := by unfold State.armEi; split <;> rfl
@[simp] theorem armEi_joySelect (s : State) : s.armEi.joySelect = s.joySelect := by unfold State.armEi; split <;> rfl
@[simp] theorem armEi_params (s : State) : s.armEi.params = s.params := by unfold State.armEi; split <;> rfl

@[simp] theorem enterHalt_regs (s : State) : s.enterHalt.regs = s.regs := by unfold State.enterHalt; split <;> rfl
@[simp] theorem enterHalt_flags (s : State) : s.enterHalt.flags = s.flags := by unfold State.enterHalt; split <;> rfl
@[simp] theorem enterHalt_sp (s : State) : s.enterHalt.sp = s.sp := by unfold State.enterHalt; split <;> rfl
@[simp] theorem enterHalt_pc (s : State) : s.enterHalt.pc = s.pc := by unfold State.enterHalt; split <;> rfl
@[simp] theorem enterHalt_ime (s : State) : s.enterHalt.ime = s.ime := by unfold State.enterHalt; split <;> rfl
@[simp] theorem enterHalt_eiDelay (s : State) : s.enterHalt.eiDelay = s.eiDelay := by unfold State.enterHalt; split <;> rfl
@[simp] theorem enterHalt_inflight (s : State) : s.enterHalt.inflight = s.inflight := by unfold State.enterHalt; split <;> rfl
@[simp] theorem enterHalt_latches (s : State) : s.enterHalt.latches = s.latches := by unfold State.enterHalt; split <;> rfl
@[simp] theorem enterHalt_clock (s : State) : s.enterHalt.clock = s.clock := by unfold State.enterHalt; split <;> rfl
@[simp] theorem enterHalt_diagnostics (s : State) : s.enterHalt.diagnostics = s.diagnostics := by unfold State.enterHalt; split <;> rfl
@[simp] theorem enterHalt_ie (s : State) : s.enterHalt.ie = s.ie := by unfold State.enterHalt; split <;> rfl
@[simp] theorem enterHalt_iflag (s : State) : s.enterHalt.iflag = s.iflag := by unfold State.enterHalt; split <;> rfl
@[simp] theorem enterHalt_timer (s : State) : s.enterHalt.timer = s.timer := by unfold State.enterHalt; split <;> rfl
@[simp] theorem enterHalt_lcd (s : State) : s.enterHalt.lcd = s.lcd := by unfold State.enterHalt; split <;> rfl
@[simp] theorem enterHalt_frames (s : State) : s.enterHalt.frames = s.frames := by unfold State.enterHalt; split <;> rfl
@[simp] theorem enterHalt_vram (s : State) : s.enterHalt.vram = s.vram := by unfold State.enterHalt; split <;> rfl
@[simp] theorem enterHalt_wram (s : State) : s.enterHalt.wram = s.wram := by unfold State.enterHalt; split <;> rfl
@[simp] theorem enterHalt_oam (s : State) : s.enterHalt.oam = s.oam := by unfold State.enterHalt; split <;> rfl
@[simp] theorem enterHalt_hram (s : State) : s.enterHalt.hram = s.hram := by unfold State.enterHalt; split <;> rfl
@[simp] theorem enterHalt_eram (s : State) : s.enterHalt.eram = s.eram := by unfold State.enterHalt; split <;> rfl
@[simp] theorem enterHalt_dma (s : State) : s.enterHalt.dma = s.dma := by unfold State.enterHalt; split <;> rfl
@[simp] theorem enterHalt_bootEnabled (s : State) : s.enterHalt.bootEnabled = s.bootEnabled := by unfold State.enterHalt; split <;> rfl
@[simp] theorem enterHalt_mbc1 (s : State) : s.enterHalt.mbc1 = s.mbc1 := by unfold State.enterHalt; split <;> rfl
@[simp] theorem enterHalt_joySelect (s : State) : s.enterHalt.joySelect = s.joySelect := by unfold State.enterHalt; split <;> rfl
@[simp] theorem enterHalt_params (s : State) : s.enterHalt.params = s.params := by unfold State.enterHalt; split <;> rfl

@[simp] theorem eiTick_regs (s : State) : s.eiTick.regs = s.regs := by unfold State.eiTick; dsimp only; (repeat' split) <;> rfl
@[simp] theorem eiTick_flags (s : State) : s.eiTick.flags = s.flags := by unfold State.eiTick; dsimp only; (repeat' split) <;> rfl
@[simp] theorem eiTick_sp (s : State) : s.eiTick.sp = s.sp := by unfold State.eiTick; dsimp only; (repeat' split) <;> rfl
@[simp] theorem eiTick_pc (s : State) : s.eiTick.pc = s.pc := by unfold State.eiTick; dsimp only; (repeat' split) <;> rfl
@[simp] theorem eiTick_haltBug (s : State) : s.eiTick.haltBug = s.haltBug := by unfold State.eiTick; dsimp only; (repeat' split) <;> rfl
@[simp] theorem eiTick_halted (s : State) : s.eiTick.halted = s.halted := by unfold State.eiTick; dsimp only; (repeat' split) <;> rfl
@[simp] theorem eiTick_inflight (s : State) : s.eiTick.inflight = s.inflight := by unfold State.eiTick; dsimp only; (repeat' split) <;> rfl
@[simp] theorem eiTick_latches (s : State) : s.eiTick.latches = s.latches := by unfold State.eiTick; dsimp only; (repeat' split) <;> rfl
@[simp] theorem eiTick_clock (s : State) : s.eiTick.clock = s.clock := by unfold State.eiTick; dsimp only; (repeat' split) <;> rfl
@[simp] theorem eiTick_diagnostics (s : State) : s.eiTick.diagnostics = s.diagnostics := by unfold State.eiTick; dsimp only; (repeat' split) <;> rfl
@[simp] theorem eiTick_ie (s : State) : s.eiTick.ie = s.ie := by unfold State.eiTick; dsimp only; (repeat' split) <;> rfl
@[simp] theorem eiTick_iflag (s : State) : s.eiTick.iflag = s.iflag := by unfold State.eiTick; dsimp only; (repeat' split) <;> rfl
@[simp] theorem eiTick_timer (s : State) : s.eiTick.timer = s.timer := by unfold State.eiTick; dsimp only; (repeat' split) <;> rfl
@[simp] theorem eiTick_lcd (s : State) : s.eiTick.lcd = s.lcd := by unfold State.eiTick; dsimp only; (repeat' split) <;> rfl
@[simp] theorem eiTick_frames (s : State) : s.eiTick.frames = s.frames := by unfold State.eiTick; dsimp only; (repeat' split) <;> rfl
@[simp] theorem eiTick_vram (s : State) : s.eiTick.vram = s.vram := by unfold State.eiTick; dsimp only; (repeat' split) <;> rfl
@[simp] theorem eiTick_wram (s : State) : s.eiTick.wram = s.wram := by unfold State.eiTick; dsimp only; (repeat' split) <;> rfl
@[simp] theorem eiTick_oam (s : State) : s.eiTick.oam = s.oam := by unfold State.eiTick; dsimp only; (repeat' split) <;> rfl
@[simp] theorem eiTick_hram (s : State) : s.eiTick.hram = s.hram := by unfold State.eiTick; dsimp only; (repeat' split) <;> rfl
@[simp] theorem eiTick_eram (s : State) : s.eiTick.eram = s.eram := by unfold State.eiTick; dsimp only; (repeat' split) <;> rfl
@[simp] theorem eiTick_dma (s : State) : s.eiTick.dma = s.dma := by unfold State.eiTick; dsimp only; (repeat' split) <;> rfl
@[simp] theorem eiTick_bootEnabled (s : State) : s.eiTick.bootEnabled = s.bootEnabled := by unfold State.eiTick; dsimp only; (repeat' split) <;> rfl
@[simp] theorem eiTick_mbc1 (s : State) : s.eiTick.mbc1 = s.mbc1 := by unfold State.eiTick; dsimp only; (repeat' split) <;> rfl
@[simp] theorem eiTick_joySelect (s : State) : s.eiTick.joySelect = s.joySelect := by unfold State.eiTick; dsimp only; (repeat' split) <;> rfl
@[simp] theorem eiTick_params (s : State) : s.eiTick.params = s.params := by unfold State.eiTick; dsimp only; (repeat' split) <;> rfl

@[simp] theorem stopStep_regs (s : State) : s.stopStep.regs = s.regs := rfl
@[simp] theorem stopStep_flags (s : State) : s.stopStep.flags = s.flags := rfl
@[simp] theorem stopStep_sp (s : State) : s.stopStep.sp = s.sp := rfl
@[simp] theorem stopStep_ime (s : State) : s.stopStep.ime = s.ime := rfl
@[simp] theorem stopStep_eiDelay (s : State) : s.stopStep.eiDelay = s.eiDelay := rfl
@[simp] theorem stopStep_haltBug (s : State) : s.stopStep.haltBug = s.haltBug := rfl
@[simp] theorem stopStep_halted (s : State) : s.stopStep.halted = s.halted := rfl
@[simp] theorem stopStep_inflight (s : State) : s.stopStep.inflight = s.inflight := rfl
@[simp] theorem stopStep_latches (s : State) : s.stopStep.latches = s.latches := rfl
@[simp] theorem stopStep_clock (s : State) : s.stopStep.clock = s.clock := rfl
@[simp] theorem stopStep_diagnostics (s : State) : s.stopStep.diagnostics = s.diagnostics := rfl
@[simp] theorem stopStep_ie (s : State) : s.stopStep.ie = s.ie := rfl
@[simp] theorem stopStep_iflag (s : State) : s.stopStep.iflag = s.iflag := rfl
@[simp] theorem stopStep_timer (s : State) : s.stopStep.timer = s.timer := rfl
@[simp] theorem stopStep_lcd (s : State) : s.stopStep.lcd = s.lcd := rfl
@[simp] theorem stopStep_frames (s : State) : s.stopStep.frames = s.frames := rfl
@[simp] theorem stopStep_vram (s : State) : s.stopStep.vram = s.vram := rfl
@[simp] theorem stopStep_wram (s : State) : s.stopStep.wram = s.wram := rfl
@[simp] theorem stopStep_oam (s : State) : s.stopStep.oam = s.oam := rfl
@[simp] theorem stopStep_hram (s : State) : s.stopStep.hram = s.hram := rfl
@[simp] theorem stopStep_eram (s : State) : s.stopStep.eram = s.eram := rfl
@[simp] theorem stopStep_dma (s : State) : s.stopStep.dma = s.dma := rfl
@[simp] theorem stopStep_bootEnabled (s : State) : s.stopStep.bootEnabled = s.bootEnabled := rfl
@[simp] theorem stopStep_mbc1 (s : State) : s.stopStep.mbc1 = s.mbc1 := rfl
@[simp] theorem stopStep_joySelect (s : State) : s.stopStep.joySelect = s.joySelect := rfl
@[simp] theorem stopStep_params (s : State) : s.stopStep.params = s.params := rfl
@[simp] theorem stopStep_pc (s : State) : s.stopStep.pc = s.pc + BitVec.ofNat 16 (ignoredBytes s.params.stopMode 0x10) := rfl

@[simp] theorem diagnose_regs (s : State) (op : Byte) : (s.diagnose op).regs = s.regs := rfl
@[simp] theorem diagnose_flags (s : State) (op : Byte) : (s.diagnose op).flags = s.flags := rfl
@[simp] theorem diagnose_sp (s : State) (op : Byte) : (s.diagnose op).sp = s.sp := rfl
@[simp] theorem diagnose_pc (s : State) (op : Byte) : (s.diagnose op).pc = s.pc := rfl
@[simp] theorem diagnose_ime (s : State) (op : Byte) : (s.diagnose op).ime = s.ime := rfl
@[simp] theorem diagnose_eiDelay (s : State) (op : Byte) : (s.diagnose op).eiDelay = s.eiDelay := rfl
@[simp] theorem diagnose_haltBug (s : State) (op : Byte) : (s.diagnose op).haltBug = s.haltBug := rfl
@[simp] theorem diagnose_halted (s : State) (op : Byte) : (s.diagnose op).halted = s.halted := rfl
@[simp] theorem diagnose_inflight (s : State) (op : Byte) : (s.diagnose op).inflight = s.inflight := rfl
@[simp] theorem diagnose_latches (s : State) (op : Byte) : (s.diagnose op).latches = s.latches := rfl
@[simp] theorem diagnose_clock (s : State) (op : Byte) : (s.diagnose op).clock = s.clock := rfl
@[simp] theorem diagnose_ie (s : State) (op : Byte) : (s.diagnose op).ie = s.ie := rfl
@[simp] theorem diagnose_iflag (s : State) (op : Byte) : (s.diagnose op).iflag = s.iflag := rfl
@[simp] theorem diagnose_timer (s : State) (op : Byte) : (s.diagnose op).timer = s.timer := rfl
@[simp] theorem diagnose_lcd (s : State) (op : Byte) : (s.diagnose op).lcd = s.lcd := rfl
@[simp] theorem diagnose_frames (s : State) (op : Byte) : (s.diagnose op).frames = s.frames := rfl
@[simp] theorem diagnose_vram (s : State) (op : Byte) : (s.diagnose op).vram = s.vram := rfl
@[simp] theorem diagnose_wram (s : State) (op : Byte) : (s.diagnose op).wram = s.wram := rfl
@[simp] theorem diagnose_oam (s : State) (op : Byte) : (s.diagnose op).oam = s.oam := rfl
@[simp] theorem diagnose_hram (s : State) (op : Byte) : (s.diagnose op).hram = s.hram := rfl
@[simp] theorem diagnose_eram (s : State) (op : Byte) : (s.diagnose op).eram = s.eram := rfl
@[simp] theorem diagnose_dma (s : State) (op : Byte) : (s.diagnose op).dma = s.dma := rfl
@[simp] theorem diagnose_bootEnabled (s : State) (op : Byte) : (s.diagnose op).bootEnabled = s.bootEnabled := rfl
@[simp] theorem diagnose_mbc1 (s : State) (op : Byte) : (s.diagnose op).mbc1 = s.mbc1 := rfl
@[simp] theorem diagnose_joySelect (s : State) (op : Byte) : (s.diagnose op).joySelect = s.joySelect := rfl
@[simp] theorem diagnose_params (s : State) (op : Byte) : (s.diagnose op).params = s.params := rfl

@[simp] theorem enterVector_regs (s : State) : s.enterVector.regs = s.regs := by unfold State.enterVector; split <;> rfl
@[simp] theorem enterVector_flags (s : State) : s.enterVector.flags = s.flags := by unfold State.enterVector; split <;> rfl
@[simp] theorem enterVector_sp (s : State) : s.enterVector.sp = s.sp := by unfold State.enterVector; split <;> rfl
@[simp] theorem enterVector_eiDelay (s : State) : s.enterVector.eiDelay = s.eiDelay := by unfold State.enterVector; split <;> rfl
@[simp] theorem enterVector_haltBug (s : State) : s.enterVector.haltBug = s.haltBug := by unfold State.enterVector; split <;> rfl
@[simp] theorem enterVector_inflight (s : State) : s.enterVector.inflight = s.inflight := by unfold State.enterVector; split <;> rfl
@[simp] theorem enterVector_latches (s : State) : s.enterVector.latches = s.latches := by unfold State.enterVector; split <;> rfl
@[simp] theorem enterVector_clock (s : State) : s.enterVector.clock = s.clock := by unfold State.enterVector; split <;> rfl
@[simp] theorem enterVector_diagnostics (s : State) : s.enterVector.diagnostics = s.diagnostics := by unfold State.enterVector; split <;> rfl
@[simp] theorem enterVector_ie (s : State) : s.enterVector.ie = s.ie := by unfold State.enterVector; split <;> rfl
@[simp] theorem enterVector_timer (s : State) : s.enterVector.timer = s.timer := by unfold State.enterVector; split <;> rfl
@[simp] theorem enterVector_lcd (s : State) : s.enterVector.lcd = s.lcd := by unfold State.enterVector; split <;> rfl
@[simp] theorem enterVector_frames (s : State) : s.enterVector.frames = s.frames := by unfold State.enterVector; split <;> rfl
@[simp] theorem enterVector_vram (s : State) : s.enterVector.vram = s.vram := by unfold State.enterVector; split <;> rfl
@[simp] theorem enterVector_wram (s : State) : s.enterVector.wram = s.wram := by unfold State.enterVector; split <;> rfl
@[simp] theorem enterVector_oam (s : State) : s.enterVector.oam = s.oam := by unfold State.enterVector; split <;> rfl
@[simp] theorem enterVector_hram (s : State) : s.enterVector.hram = s.hram := by unfold State.enterVector; split <;> rfl
@[simp] theorem enterVector_eram (s : State) : s.enterVector.eram = s.eram := by unfold State.enterVector; split <;> rfl
@[simp] theorem enterVector_dma (s : State) : s.enterVector.dma = s.dma := by unfold State.enterVector; split <;> rfl
@[simp] theorem enterVector_bootEnabled (s : State) : s.enterVector.bootEnabled = s.bootEnabled := by unfold State.enterVector; split <;> rfl
@[simp] theorem enterVector_mbc1 (s : State) : s.enterVector.mbc1 = s.mbc1 := by unfold State.enterVector; split <;> rfl
@[simp] theorem enterVector_joySelect (s : State) : s.enterVector.joySelect = s.joySelect := by unfold State.enterVector; split <;> rfl
@[simp] theorem enterVector_params (s : State) : s.enterVector.params = s.params := by unfold State.enterVector; split <;> rfl
@[simp] theorem enterVector_ime (s : State) : s.enterVector.ime = false := by unfold State.enterVector; split <;> rfl
@[simp] theorem enterVector_halted (s : State) : s.enterVector.halted = false := by unfold State.enterVector; split <;> rfl

end Sys2Proof.Machine
end

