-- ==== Sys2Proof/Laws/Frame.lean ====
section
/-! SUPPORT. What the peripherals' part of a system step and a bus write leave alone, one lemma per field: the display controller
touches `lcd`, `frames` and `iflag`, the timer `timer` and `iflag`, the DMA controller `dma` and `oam`; a bus write touches no
register of the engine. -/
namespace Sys2Proof.Machine

/-! ## Display controller -/

@[simp] theorem updateCoincidence_regs (s : State) (o : Bool) : (s.updateCoincidence o).regs = s.regs := by simp [State.updateCoincidence]
@[simp] theorem advanceDot_regs (s : State) : s.advanceDot.regs = s.regs := by unfold State.advanceDot; split <;> simp
@[simp] theorem onEnter_regs (s : State) (m : Mode) : (s.onEnter m).regs = s.regs := by cases m <;> simp [State.onEnter]
@[simp] theorem enterMode_regs (s : State) : s.enterMode.regs = s.regs := by simp only [State.enterMode]; split <;> simp
@[simp] theorem dotTick_regs (s : State) : s.dotTick.regs = s.regs := by unfold State.dotTick; split <;> simp
@[simp] theorem displayTick_regs (n : Nat) (s : State) : (s.displayTick n).regs = s.regs := by
  induction n generalizing s with
  | zero => rfl
  | succ n ih => exact (ih s.dotTick).trans (dotTick_regs s)
@[simp] theorem updateCoincidence_flags (s : State) (o : Bool) : (s.updateCoincidence o).flags = s.flags := by simp [State.updateCoincidence]
@[simp] theorem advanceDot_flags (s : State) : s.advanceDot.flags = s.flags := by unfold State.advanceDot; split <;> simp
@[simp] theorem onEnter_flags (s : State) (m : Mode) : (s.onEnter m).flags = s.flags := by cases m <;> simp [State.onEnter]
@[simp] theorem enterMode_flags (s : State) : s.enterMode.flags = s.flags := by simp only [State.enterMode]; split <;> simp
@[simp] theorem dotTick_flags (s : State) : s.dotTick.flags = s.flags := by unfold State.dotTick; split <;> simp
@[simp] theorem displayTick_flags (n : Nat) (s : State) : (s.displayTick n).flags = s.flags := by
  induction n generalizing s with
  | zero => rfl
  | succ n ih => exact (ih s.dotTick).trans (dotTick_flags s)
@[simp] theorem updateCoincidence_sp (s : State) (o : Bool) : (s.updateCoincidence o).sp = s.sp := by simp [State.updateCoincidence]
@[simp] theorem advanceDot_sp (s : State) : s.advanceDot.sp = s.sp := by unfold State.advanceDot; split <;> simp
@[simp] theorem onEnter_sp (s : State) (m : Mode) : (s.onEnter m).sp = s.sp := by cases m <;> simp [State.onEnter]
@[simp] theorem enterMode_sp (s : State) : s.enterMode.sp = s.sp := by simp only [State.enterMode]; split <;> simp
@[simp] theorem dotTick_sp (s : State) : s.dotTick.sp = s.sp := by unfold State.dotTick; split <;> simp
@[simp] theorem displayTick_sp (n : Nat) (s : State) : (s.displayTick n).sp = s.sp := by
  induction n generalizing s with
  | zero => rfl
  | succ n ih => exact (ih s.dotTick).trans (dotTick_sp s)
@[simp] theorem updateCoincidence_pc (s : State) (o : Bool) : (s.updateCoincidence o).pc = s.pc := by simp [State.updateCoincidence]
@[simp] theorem advanceDot_pc (s : State) : s.advanceDot.pc = s.pc := by unfold State.advanceDot; split <;> simp
@[simp] theorem onEnter_pc (s : State) (m : Mode) : (s.onEnter m).pc = s.pc := by cases m <;> simp [State.onEnter]
@[simp] theorem enterMode_pc (s : State) : s.enterMode.pc = s.pc := by simp only [State.enterMode]; split <;> simp
@[simp] theorem dotTick_pc (s : State) : s.dotTick.pc = s.pc := by unfold State.dotTick; split <;> simp
@[simp] theorem displayTick_pc (n : Nat) (s : State) : (s.displayTick n).pc = s.pc := by
  induction n generalizing s with
  | zero => rfl
  | succ n ih => exact (ih s.dotTick).trans (dotTick_pc s)
@[simp] theorem updateCoincidence_ime (s : State) (o : Bool) : (s.updateCoincidence o).ime = s.ime := by simp [State.updateCoincidence]
@[simp] theorem advanceDot_ime (s : State) : s.advanceDot.ime = s.ime := by unfold State.advanceDot; split <;> simp
@[simp] theorem onEnter_ime (s : State) (m : Mode) : (s.onEnter m).ime = s.ime := by cases m <;> simp [State.onEnter]
@[simp] theorem enterMode_ime (s : State) : s.enterMode.ime = s.ime := by simp only [State.enterMode]; split <;> simp
@[simp] theorem dotTick_ime (s : State) : s.dotTick.ime = s.ime := by unfold State.dotTick; split <;> simp
@[simp] theorem displayTick_ime (n : Nat) (s : State) : (s.displayTick n).ime = s.ime := by
  induction n generalizing s with
  | zero => rfl
  | succ n ih => exact (ih s.dotTick).trans (dotTick_ime s)
@[simp] theorem updateCoincidence_eiDelay (s : State) (o : Bool) : (s.updateCoincidence o).eiDelay = s.eiDelay := by simp [State.updateCoincidence]
@[simp] theorem advanceDot_eiDelay (s : State) : s.advanceDot.eiDelay = s.eiDelay := by unfold State.advanceDot; split <;> simp
@[simp] theorem onEnter_eiDelay (s : State) (m : Mode) : (s.onEnter m).eiDelay = s.eiDelay := by cases m <;> simp [State.onEnter]
@[simp] theorem enterMode_eiDelay (s : State) : s.enterMode.eiDelay = s.eiDelay := by simp only [State.enterMode]; split <;> simp
@[simp] theorem dotTick_eiDelay (s : State) : s.dotTick.eiDelay = s.eiDelay := by unfold State.dotTick; split <;> simp
@[simp] theorem displayTick_eiDelay (n : Nat) (s : State) : (s.displayTick n).eiDelay = s.eiDelay := by
  induction n generalizing s with
  | zero => rfl
  | succ n ih => exact (ih s.dotTick).trans (dotTick_eiDelay s)
@[simp] theorem updateCoincidence_haltBug (s : State) (o : Bool) : (s.updateCoincidence o).haltBug = s.haltBug := by simp [State.updateCoincidence]
@[simp] theorem advanceDot_haltBug (s : State) : s.advanceDot.haltBug = s.haltBug := by unfold State.advanceDot; split <;> simp
@[simp] theorem onEnter_haltBug (s : State) (m : Mode) : (s.onEnter m).haltBug = s.haltBug := by cases m <;> simp [State.onEnter]
@[simp] theorem enterMode_haltBug (s : State) : s.enterMode.haltBug = s.haltBug := by simp only [State.enterMode]; split <;> simp
@[simp] theorem dotTick_haltBug (s : State) : s.dotTick.haltBug = s.haltBug := by unfold State.dotTick; split <;> simp
@[simp] theorem displayTick_haltBug (n : Nat) (s : State) : (s.displayTick n).haltBug = s.haltBug := by
  induction n generalizing s with
  | zero => rfl
  | succ n ih => exact (ih s.dotTick).trans (dotTick_haltBug s)
@[simp] theorem updateCoincidence_halted (s : State) (o : Bool) : (s.updateCoincidence o).halted = s.halted := by simp [State.updateCoincidence]
@[simp] theorem advanceDot_halted (s : State) : s.advanceDot.halted = s.halted := by unfold State.advanceDot; split <;> simp
@[simp] theorem onEnter_halted (s : State) (m : Mode) : (s.onEnter m).halted = s.halted := by cases m <;> simp [State.onEnter]
@[simp] theorem enterMode_halted (s : State) : s.enterMode.halted = s.halted := by simp only [State.enterMode]; split <;> simp
@[simp] theorem dotTick_halted (s : State) : s.dotTick.halted = s.halted := by unfold State.dotTick; split <;> simp
@[simp] theorem displayTick_halted (n : Nat) (s : State) : (s.displayTick n).halted = s.halted := by
  induction n generalizing s with
  | zero => rfl
  | succ n ih => exact (ih s.dotTick).trans (dotTick_halted s)
@[simp] theorem updateCoincidence_inflight (s : State) (o : Bool) : (s.updateCoincidence o).inflight = s.inflight := by simp [State.updateCoincidence]
@[simp] theorem advanceDot_inflight (s : State) : s.advanceDot.inflight = s.inflight := by unfold State.advanceDot; split <;> simp
@[simp] theorem onEnter_inflight (s : State) (m : Mode) : (s.onEnter m).inflight = s.inflight := by cases m <;> simp [State.onEnter]
@[simp] theorem enterMode_inflight (s : State) : s.enterMode.inflight = s.inflight := by simp only [State.enterMode]; split <;> simp
@[simp] theorem dotTick_inflight (s : State) : s.dotTick.inflight = s.inflight := by unfold State.dotTick; split <;> simp
@[simp] theorem displayTick_inflight (n : Nat) (s : State) : (s.displayTick n).inflight = s.inflight := by
  induction n generalizing s with
  | zero => rfl
  | succ n ih => exact (ih s.dotTick).trans (dotTick_inflight s)
@[simp] theorem updateCoincidence_latches (s : State) (o : Bool) : (s.updateCoincidence o).latches = s.latches := by simp [State.updateCoincidence]
@[simp] theorem advanceDot_latches (s : State) : s.advanceDot.latches = s.latches := by unfold State.advanceDot; split <;> simp
@[simp] theorem onEnter_latches (s : State) (m : Mode) : (s.onEnter m).latches = s.latches := by cases m <;> simp [State.onEnter]
@[simp] theorem enterMode_latches (s : State) : s.enterMode.latches = s.latches := by simp only [State.enterMode]; split <;> simp
@[simp] theorem dotTick_latches (s : State) : s.dotTick.latches = s.latches := by unfold State.dotTick; split <;> simp
@[simp] theorem displayTick_latches (n : Nat) (s : State) : (s.displayTick n).latches = s.latches := by
  induction n generalizing s with
  | zero => rfl
  | succ n ih => exact (ih s.dotTick).trans (dotTick_latches s)
@[simp] theorem updateCoincidence_clock (s : State) (o : Bool) : (s.updateCoincidence o).clock = s.clock := by simp [State.updateCoincidence]
@[simp] theorem advanceDot_clock (s : State) : s.advanceDot.clock = s.clock := by unfold State.advanceDot; split <;> simp
@[simp] theorem onEnter_clock (s : State) (m : Mode) : (s.onEnter m).clock = s.clock := by cases m <;> simp [State.onEnter]
@[simp] theorem enterMode_clock (s : State) : s.enterMode.clock = s.clock := by simp only [State.enterMode]; split <;> simp
@[simp] theorem dotTick_clock (s : State) : s.dotTick.clock = s.clock := by unfold State.dotTick; split <;> simp
@[simp] theorem displayTick_clock (n : Nat) (s : State) : (s.displayTick n).clock = s.clock := by
  induction n generalizing s with
  | zero => rfl
  | succ n ih => exact (ih s.dotTick).trans (dotTick_clock s)
@[simp] theorem updateCoincidence_diagnostics (s : State) (o : Bool) : (s.updateCoincidence o).diagnostics = s.diagnostics := by simp [State.updateCoincidence]
@[simp] theorem advanceDot_diagnostics (s : State) : s.advanceDot.diagnostics = s.diagnostics := by unfold State.advanceDot; split <;> simp
@[simp] theorem onEnter_diagnostics (s : State) (m : Mode) : (s.onEnter m).diagnostics = s.diagnostics := by cases m <;> simp [State.onEnter]
@[simp] theorem enterMode_diagnostics (s : State) : s.enterMode.diagnostics = s.diagnostics := by simp only [State.enterMode]; split <;> simp
@[simp] theorem dotTick_diagnostics (s : State) : s.dotTick.diagnostics = s.diagnostics := by unfold State.dotTick; split <;> simp
@[simp] theorem displayTick_diagnostics (n : Nat) (s : State) : (s.displayTick n).diagnostics = s.diagnostics := by
  induction n generalizing s with
  | zero => rfl
  | succ n ih => exact (ih s.dotTick).trans (dotTick_diagnostics s)
@[simp] theorem updateCoincidence_ie (s : State) (o : Bool) : (s.updateCoincidence o).ie = s.ie := by simp [State.updateCoincidence]
@[simp] theorem advanceDot_ie (s : State) : s.advanceDot.ie = s.ie := by unfold State.advanceDot; split <;> simp
@[simp] theorem onEnter_ie (s : State) (m : Mode) : (s.onEnter m).ie = s.ie := by cases m <;> simp [State.onEnter]
@[simp] theorem enterMode_ie (s : State) : s.enterMode.ie = s.ie := by simp only [State.enterMode]; split <;> simp
@[simp] theorem dotTick_ie (s : State) : s.dotTick.ie = s.ie := by unfold State.dotTick; split <;> simp
@[simp] theorem displayTick_ie (n : Nat) (s : State) : (s.displayTick n).ie = s.ie := by
  induction n generalizing s with
  | zero => rfl
  | succ n ih => exact (ih s.dotTick).trans (dotTick_ie s)
@[simp] theorem updateCoincidence_timer (s : State) (o : Bool) : (s.updateCoincidence o).timer = s.timer := by simp [State.updateCoincidence]
@[simp] theorem advanceDot_timer (s : State) : s.advanceDot.timer = s.timer := by unfold State.advanceDot; split <;> simp
@[simp] theorem onEnter_timer (s : State) (m : Mode) : (s.onEnter m).timer = s.timer := by cases m <;> simp [State.onEnter]
@[simp] theorem enterMode_timer (s : State) : s.enterMode.timer = s.timer := by simp only [State.enterMode]; split <;> simp
@[simp] theorem dotTick_timer (s : State) : s.dotTick.timer = s.timer := by unfold State.dotTick; split <;> simp
@[simp] theorem displayTick_timer (n : Nat) (s : State) : (s.displayTick n).timer = s.timer := by
  induction n generalizing s with
  | zero => rfl
  | succ n ih => exact (ih s.dotTick).trans (dotTick_timer s)
@[simp] theorem updateCoincidence_vram (s : State) (o : Bool) : (s.updateCoincidence o).vram = s.vram := by simp [State.updateCoincidence]
@[simp] theorem advanceDot_vram (s : State) : s.advanceDot.vram = s.vram := by unfold State.advanceDot; split <;> simp
@[simp] theorem onEnter_vram (s : State) (m : Mode) : (s.onEnter m).vram = s.vram := by cases m <;> simp [State.onEnter]
@[simp] theorem enterMode_vram (s : State) : s.enterMode.vram = s.vram := by simp only [State.enterMode]; split <;> simp
@[simp] theorem dotTick_vram (s : State) : s.dotTick.vram = s.vram := by unfold State.dotTick; split <;> simp
@[simp] theorem displayTick_vram (n : Nat) (s : State) : (s.displayTick n).vram = s.vram := by
  induction n generalizing s with
  | zero => rfl
  | succ n ih => exact (ih s.dotTick).trans (dotTick_vram s)
@[simp] theorem updateCoincidence_wram (s : State) (o : Bool) : (s.updateCoincidence o).wram = s.wram := by simp [State.updateCoincidence]
@[simp] theorem advanceDot_wram (s : State) : s.advanceDot.wram = s.wram := by unfold State.advanceDot; split <;> simp
@[simp] theorem onEnter_wram (s : State) (m : Mode) : (s.onEnter m).wram = s.wram := by cases m <;> simp [State.onEnter]
@[simp] theorem enterMode_wram (s : State) : s.enterMode.wram = s.wram := by simp only [State.enterMode]; split <;> simp
@[simp] theorem dotTick_wram (s : State) : s.dotTick.wram = s.wram := by unfold State.dotTick; split <;> simp
@[simp] theorem displayTick_wram (n : Nat) (s : State) : (s.displayTick n).wram = s.wram := by
  induction n generalizing s with
  | zero => rfl
  | succ n ih => exact (ih s.dotTick).trans (dotTick_wram s)
@[simp] theorem updateCoincidence_oam (s : State) (o : Bool) : (s.updateCoincidence o).oam = s.oam := by simp [State.updateCoincidence]
@[simp] theorem advanceDot_oam (s : State) : s.advanceDot.oam = s.oam := by unfold State.advanceDot; split <;> simp
@[simp] theorem onEnter_oam (s : State) (m : Mode) : (s.onEnter m).oam = s.oam := by cases m <;> simp [State.onEnter]
@[simp] theorem enterMode_oam (s : State) : s.enterMode.oam = s.oam := by simp only [State.enterMode]; split <;> simp
@[simp] theorem dotTick_oam (s : State) : s.dotTick.oam = s.oam := by unfold State.dotTick; split <;> simp
@[simp] theorem displayTick_oam (n : Nat) (s : State) : (s.displayTick n).oam = s.oam := by
  induction n generalizing s with
  | zero => rfl
  | succ n ih => exact (ih s.dotTick).trans (dotTick_oam s)
@[simp] theorem updateCoincidence_hram (s : State) (o : Bool) : (s.updateCoincidence o).hram = s.hram := by simp [State.updateCoincidence]
@[simp] theorem advanceDot_hram (s : State) : s.advanceDot.hram = s.hram := by unfold State.advanceDot; split <;> simp
@[simp] theorem onEnter_hram (s : State) (m : Mode) : (s.onEnter m).hram = s.hram := by cases m <;> simp [State.onEnter]
@[simp] theorem enterMode_hram (s : State) : s.enterMode.hram = s.hram := by simp only [State.enterMode]; split <;> simp
@[simp] theorem dotTick_hram (s : State) : s.dotTick.hram = s.hram := by unfold State.dotTick; split <;> simp
@[simp] theorem displayTick_hram (n : Nat) (s : State) : (s.displayTick n).hram = s.hram := by
  induction n generalizing s with
  | zero => rfl
  | succ n ih => exact (ih s.dotTick).trans (dotTick_hram s)
@[simp] theorem updateCoincidence_eram (s : State) (o : Bool) : (s.updateCoincidence o).eram = s.eram := by simp [State.updateCoincidence]
@[simp] theorem advanceDot_eram (s : State) : s.advanceDot.eram = s.eram := by unfold State.advanceDot; split <;> simp
@[simp] theorem onEnter_eram (s : State) (m : Mode) : (s.onEnter m).eram = s.eram := by cases m <;> simp [State.onEnter]
@[simp] theorem enterMode_eram (s : State) : s.enterMode.eram = s.eram := by simp only [State.enterMode]; split <;> simp
@[simp] theorem dotTick_eram (s : State) : s.dotTick.eram = s.eram := by unfold State.dotTick; split <;> simp
@[simp] theorem displayTick_eram (n : Nat) (s : State) : (s.displayTick n).eram = s.eram := by
  induction n generalizing s with
  | zero => rfl
  | succ n ih => exact (ih s.dotTick).trans (dotTick_eram s)
@[simp] theorem updateCoincidence_dma (s : State) (o : Bool) : (s.updateCoincidence o).dma = s.dma := by simp [State.updateCoincidence]
@[simp] theorem advanceDot_dma (s : State) : s.advanceDot.dma = s.dma := by unfold State.advanceDot; split <;> simp
@[simp] theorem onEnter_dma (s : State) (m : Mode) : (s.onEnter m).dma = s.dma := by cases m <;> simp [State.onEnter]
@[simp] theorem enterMode_dma (s : State) : s.enterMode.dma = s.dma := by simp only [State.enterMode]; split <;> simp
@[simp] theorem dotTick_dma (s : State) : s.dotTick.dma = s.dma := by unfold State.dotTick; split <;> simp
@[simp] theorem displayTick_dma (n : Nat) (s : State) : (s.displayTick n).dma = s.dma := by
  induction n generalizing s with
  | zero => rfl
  | succ n ih => exact (ih s.dotTick).trans (dotTick_dma s)
@[simp] theorem updateCoincidence_bootEnabled (s : State) (o : Bool) : (s.updateCoincidence o).bootEnabled = s.bootEnabled := by simp [State.updateCoincidence]
@[simp] theorem advanceDot_bootEnabled (s : State) : s.advanceDot.bootEnabled = s.bootEnabled := by unfold State.advanceDot; split <;> simp
@[simp] theorem onEnter_bootEnabled (s : State) (m : Mode) : (s.onEnter m).bootEnabled = s.bootEnabled := by cases m <;> simp [State.onEnter]
@[simp] theorem enterMode_bootEnabled (s : State) : s.enterMode.bootEnabled = s.bootEnabled := by simp only [State.enterMode]; split <;> simp
@[simp] theorem dotTick_bootEnabled (s : State) : s.dotTick.bootEnabled = s.bootEnabled := by unfold State.dotTick; split <;> simp
@[simp] theorem displayTick_bootEnabled (n : Nat) (s : State) : (s.displayTick n).bootEnabled = s.bootEnabled := by
  induction n generalizing s with
  | zero => rfl
  | succ n ih => exact (ih s.dotTick).trans (dotTick_bootEnabled s)
@[simp] theorem updateCoincidence_mbc1 (s : State) (o : Bool) : (s.updateCoincidence o).mbc1 = s.mbc1 := by simp [State.updateCoincidence]
@[simp] theorem advanceDot_mbc1 (s : State) : s.advanceDot.mbc1 = s.mbc1 := by unfold State.advanceDot; split <;> simp
@[simp] theorem onEnter_mbc1 (s : State) (m : Mode) : (s.onEnter m).mbc1 = s.mbc1 := by cases m <;> simp [State.onEnter]
@[simp] theorem enterMode_mbc1 (s : State) : s.enterMode.mbc1 = s.mbc1 := by simp only [State.enterMode]; split <;> simp
@[simp] theorem dotTick_mbc1 (s : State) : s.dotTick.mbc1 = s.mbc1 := by unfold State.dotTick; split <;> simp
@[simp] theorem displayTick_mbc1 (n : Nat) (s : State) : (s.displayTick n).mbc1 = s.mbc1 := by
  induction n generalizing s with
  | zero => rfl
  | succ n ih => exact (ih s.dotTick).trans (dotTick_mbc1 s)
@[simp] theorem updateCoincidence_joySelect (s : State) (o : Bool) : (s.updateCoincidence o).joySelect = s.joySelect := by simp [State.updateCoincidence]
@[simp] theorem advanceDot_joySelect (s : State) : s.advanceDot.joySelect = s.joySelect := by unfold State.advanceDot; split <;> simp
@[simp] theorem onEnter_joySelect (s : State) (m : Mode) : (s.onEnter m).joySelect = s.joySelect := by cases m <;> simp [State.onEnter]
@[simp] theorem enterMode_joySelect (s : State) : s.enterMode.joySelect = s.joySelect := by simp only [State.enterMode]; split <;> simp
@[simp] theorem dotTick_joySelect (s : State) : s.dotTick.joySelect = s.joySelect := by unfold State.dotTick; split <;> simp
@[simp] theorem displayTick_joySelect (n : Nat) (s : State) : (s.displayTick n).joySelect = s.joySelect := by
  induction n generalizing s with
  | zero => rfl
  | succ n ih => exact (ih s.dotTick).trans (dotTick_joySelect s)
@[simp] theorem updateCoincidence_params (s : State) (o : Bool) : (s.updateCoincidence o).params = s.params := by simp [State.updateCoincidence]
@[simp] theorem advanceDot_params (s : State) : s.advanceDot.params = s.params := by unfold State.advanceDot; split <;> simp
@[simp] theorem onEnter_params (s : State) (m : Mode) : (s.onEnter m).params = s.params := by cases m <;> simp [State.onEnter]
@[simp] theorem enterMode_params (s : State) : s.enterMode.params = s.params := by simp only [State.enterMode]; split <;> simp
@[simp] theorem dotTick_params (s : State) : s.dotTick.params = s.params := by unfold State.dotTick; split <;> simp
@[simp] theorem displayTick_params (n : Nat) (s : State) : (s.displayTick n).params = s.params := by
  induction n generalizing s with
  | zero => rfl
  | succ n ih => exact (ih s.dotTick).trans (dotTick_params s)

/-! ## Timer -/

@[simp] theorem timerTick1_regs (s : State) : s.timerTick1.regs = s.regs := by simp only [State.timerTick1]; split <;> rfl
@[simp] theorem timerTick_regs (n : Nat) (s : State) : (s.timerTick n).regs = s.regs := by
  induction n generalizing s with
  | zero => rfl
  | succ n ih => exact (ih s.timerTick1).trans (timerTick1_regs s)
@[simp] theorem timerTick1_flags (s : State) : s.timerTick1.flags = s.flags := by simp only [State.timerTick1]; split <;> rfl
@[simp] theorem timerTick_flags (n : Nat) (s : State) : (s.timerTick n).flags = s.flags := by
  induction n generalizing s with
  | zero => rfl
  | succ n ih => exact (ih s.timerTick1).trans (timerTick1_flags s)
@[simp] theorem timerTick1_sp (s : State) : s.timerTick1.sp = s.sp := by simp only [State.timerTick1]; split <;> rfl
@[simp] theorem timerTick_sp (n : Nat) (s : State) : (s.timerTick n).sp = s.sp := by
  induction n generalizing s with
  | zero => rfl
  | succ n ih => exact (ih s.timerTick1).trans (timerTick1_sp s)
@[simp] theorem timerTick1_pc (s : State) : s.timerTick1.pc = s.pc := by simp only [State.timerTick1]; split <;> rfl
@[simp] theorem timerTick_pc (n : Nat) (s : State) : (s.timerTick n).pc = s.pc := by
  induction n generalizing s with
  | zero => rfl
  | succ n ih => exact (ih s.timerTick1).trans (timerTick1_pc s)
@[simp] theorem timerTick1_ime (s : State) : s.timerTick1.ime = s.ime := by simp only [State.timerTick1]; split <;> rfl
@[simp] theorem timerTick_ime (n : Nat) (s : State) : (s.timerTick n).ime = s.ime := by
  induction n generalizing s with
  | zero => rfl
  | succ n ih => exact (ih s.timerTick1).trans (timerTick1_ime s)
@[simp] theorem timerTick1_eiDelay (s : State) : s.timerTick1.eiDelay = s.eiDelay := by simp only [State.timerTick1]; split <;> rfl
@[simp] theorem timerTick_eiDelay (n : Nat) (s : State) : (s.timerTick n).eiDelay = s.eiDelay := by
  induction n generalizing s with
  | zero => rfl
  | succ n ih => exact (ih s.timerTick1).trans (timerTick1_eiDelay s)
@[simp] theorem timerTick1_haltBug (s : State) : s.timerTick1.haltBug = s.haltBug := by simp only [State.timerTick1]; split <;> rfl
@[simp] theorem timerTick_haltBug (n : Nat) (s : State) : (s.timerTick n).haltBug = s.haltBug := by
  induction n generalizing s with
  | zero => rfl
  | succ n ih => exact (ih s.timerTick1).trans (timerTick1_haltBug s)
@[simp] theorem timerTick1_halted (s : State) : s.timerTick1.halted = s.halted := by simp only [State.timerTick1]; split <;> rfl
@[simp] theorem timerTick_halted (n : Nat) (s : State) : (s.timerTick n).halted = s.halted := by
  induction n generalizing s with
  | zero => rfl
  | succ n ih => exact (ih s.timerTick1).trans (timerTick1_halted s)
@[simp] theorem timerTick1_inflight (s : State) : s.timerTick1.inflight = s.inflight := by simp only [State.timerTick1]; split <;> rfl
@[simp] theorem timerTick_inflight (n : Nat) (s : State) : (s.timerTick n).inflight = s.inflight := by
  induction n generalizing s with
  | zero => rfl
  | succ n ih => exact (ih s.timerTick1).trans (timerTick1_inflight s)
@[simp] theorem timerTick1_latches (s : State) : s.timerTick1.latches = s.latches := by simp only [State.timerTick1]; split <;> rfl
@[simp] theorem timerTick_latches (n : Nat) (s : State) : (s.timerTick n).latches = s.latches := by
  induction n generalizing s with
  | zero => rfl
  | succ n ih => exact (ih s.timerTick1).trans (timerTick1_latches s)
@[simp] theorem timerTick1_clock (s : State) : s.timerTick1.clock = s.clock := by simp only [State.timerTick1]; split <;> rfl
@[simp] theorem timerTick_clock (n : Nat) (s : State) : (s.timerTick n).clock = s.clock := by
  induction n generalizing s with
  | zero => rfl
  | succ n ih => exact (ih s.timerTick1).trans (timerTick1_clock s)
@[simp] theorem timerTick1_diagnostics (s : State) : s.timerTick1.diagnostics = s.diagnostics := by simp only [State.timerTick1]; split <;> rfl
@[simp] theorem timerTick_diagnostics (n : Nat) (s : State) : (s.timerTick n).diagnostics = s.diagnostics := by
  induction n generalizing s with
  | zero => rfl
  | succ n ih => exact (ih s.timerTick1).trans (timerTick1_diagnostics s)
@[simp] theorem timerTick1_ie (s : State) : s.timerTick1.ie = s.ie := by simp only [State.timerTick1]; split <;> rfl
@[simp] theorem timerTick_ie (n : Nat) (s : State) : (s.timerTick n).ie = s.ie := by
  induction n generalizing s with
  | zero => rfl
  | succ n ih => exact (ih s.timerTick1).trans (timerTick1_ie s)
@[simp] theorem timerTick1_lcd (s : State) : s.timerTick1.lcd = s.lcd := by simp only [State.timerTick1]; split <;> rfl
@[simp] theorem timerTick_lcd (n : Nat) (s : State) : (s.timerTick n).lcd = s.lcd := by
  induction n generalizing s with
  | zero => rfl
  | succ n ih => exact (ih s.timerTick1).trans (timerTick1_lcd s)
@[simp] theorem timerTick1_frames (s : State) : s.timerTick1.frames = s.frames := by simp only [State.timerTick1]; split <;> rfl
@[simp] theorem timerTick_frames (n : Nat) (s : State) : (s.timerTick n).frames = s.frames := by
  induction n generalizing s with
  | zero => rfl
  | succ n ih => exact (ih s.timerTick1).trans (timerTick1_frames s)
@[simp] theorem timerTick1_vram (s : State) : s.timerTick1.vram = s.vram := by simp only [State.timerTick1]; split <;> rfl
@[simp] theorem timerTick_vram (n : Nat) (s : State) : (s.timerTick n).vram = s.vram := by
  induction n generalizing s with
  | zero => rfl
  | succ n ih => exact (ih s.timerTick1).trans (timerTick1_vram s)
@[simp] theorem timerTick1_wram (s : State) : s.timerTick1.wram = s.wram := by simp only [State.timerTick1]; split <;> rfl
@[simp] theorem timerTick_wram (n : Nat) (s : State) : (s.timerTick n).wram = s.wram := by
  induction n generalizing s with
  | zero => rfl
  | succ n ih => exact (ih s.timerTick1).trans (timerTick1_wram s)
@[simp] theorem timerTick1_oam (s : State) : s.timerTick1.oam = s.oam := by simp only [State.timerTick1]; split <;> rfl
@[simp] theorem timerTick_oam (n : Nat) (s : State) : (s.timerTick n).oam = s.oam := by
  induction n generalizing s with
  | zero => rfl
  | succ n ih => exact (ih s.timerTick1).trans (timerTick1_oam s)
@[simp] theorem timerTick1_hram (s : State) : s.timerTick1.hram = s.hram := by simp only [State.timerTick1]; split <;> rfl
@[simp] theorem timerTick_hram (n : Nat) (s : State) : (s.timerTick n).hram = s.hram := by
  induction n generalizing s with
  | zero => rfl
  | succ n ih => exact (ih s.timerTick1).trans (timerTick1_hram s)
@[simp] theorem timerTick1_eram (s : State) : s.timerTick1.eram = s.eram := by simp only [State.timerTick1]; split <;> rfl
@[simp] theorem timerTick_eram (n : Nat) (s : State) : (s.timerTick n).eram = s.eram := by
  induction n generalizing s with
  | zero => rfl
  | succ n ih => exact (ih s.timerTick1).trans (timerTick1_eram s)
@[simp] theorem timerTick1_dma (s : State) : s.timerTick1.dma = s.dma := by simp only [State.timerTick1]; split <;> rfl
@[simp] theorem timerTick_dma (n : Nat) (s : State) : (s.timerTick n).dma = s.dma := by
  induction n generalizing s with
  | zero => rfl
  | succ n ih => exact (ih s.timerTick1).trans (timerTick1_dma s)
@[simp] theorem timerTick1_bootEnabled (s : State) : s.timerTick1.bootEnabled = s.bootEnabled := by simp only [State.timerTick1]; split <;> rfl
@[simp] theorem timerTick_bootEnabled (n : Nat) (s : State) : (s.timerTick n).bootEnabled = s.bootEnabled := by
  induction n generalizing s with
  | zero => rfl
  | succ n ih => exact (ih s.timerTick1).trans (timerTick1_bootEnabled s)
@[simp] theorem timerTick1_mbc1 (s : State) : s.timerTick1.mbc1 = s.mbc1 := by simp only [State.timerTick1]; split <;> rfl
@[simp] theorem timerTick_mbc1 (n : Nat) (s : State) : (s.timerTick n).mbc1 = s.mbc1 := by
  induction n generalizing s with
  | zero => rfl
  | succ n ih => exact (ih s.timerTick1).trans (timerTick1_mbc1 s)
@[simp] theorem timerTick1_joySelect (s : State) : s.timerTick1.joySelect = s.joySelect := by simp only [State.timerTick1]; split <;> rfl
@[simp] theorem timerTick_joySelect (n : Nat) (s : State) : (s.timerTick n).joySelect = s.joySelect := by
  induction n generalizing s with
  | zero => rfl
  | succ n ih => exact (ih s.timerTick1).trans (timerTick1_joySelect s)
@[simp] theorem timerTick1_params (s : State) : s.timerTick1.params = s.params := by simp only [State.timerTick1]; split <;> rfl
@[simp] theorem timerTick_params (n : Nat) (s : State) : (s.timerTick n).params = s.params := by
  induction n generalizing s with
  | zero => rfl
  | succ n ih => exact (ih s.timerTick1).trans (timerTick1_params s)

/-! ## DMA controller -/

@[simp] theorem dmaCopyByte_regs (s : State) : s.dmaCopyByte.regs = s.regs := by simp only [State.dmaCopyByte]; split <;> rfl
@[simp] theorem dmaLoop_regs (k : Nat) (s : State) : (s.dmaLoop k).regs = s.regs := by
  induction k generalizing s with
  | zero => rfl
  | succ k ih => unfold State.dmaLoop; split <;> simp [ih]
@[simp] theorem dmaTick_regs (n : Nat) (s : State) : (s.dmaTick n).regs = s.regs := by unfold State.dmaTick; split <;> simp
@[simp] theorem dmaCopyByte_flags (s : State) : s.dmaCopyByte.flags = s.flags := by simp only [State.dmaCopyByte]; split <;> rfl
@[simp] theorem dmaLoop_flags (k : Nat) (s : State) : (s.dmaLoop k).flags = s.flags := by
  induction k generalizing s with
  | zero => rfl
  | succ k ih => unfold State.dmaLoop; split <;> simp [ih]
@[simp] theorem dmaTick_flags (n : Nat) (s : State) : (s.dmaTick n).flags = s.flags := by unfold State.dmaTick; split <;> simp
@[simp] theorem dmaCopyByte_sp (s : State) : s.dmaCopyByte.sp = s.sp := by simp only [State.dmaCopyByte]; split <;> rfl
@[simp] theorem dmaLoop_sp (k : Nat) (s : State) : (s.dmaLoop k).sp = s.sp := by
  induction k generalizing s with
  | zero => rfl
  | succ k ih => unfold State.dmaLoop; split <;> simp [ih]
@[simp] theorem dmaTick_sp (n : Nat) (s : State) : (s.dmaTick n).sp = s.sp := by unfold State.dmaTick; split <;> simp
@[simp] theorem dmaCopyByte_pc (s : State) : s.dmaCopyByte.pc = s.pc := by simp only [State.dmaCopyByte]; split <;> rfl
@[simp] theorem dmaLoop_pc (k : Nat) (s : State) : (s.dmaLoop k).pc = s.pc := by
  induction k generalizing s with
  | zero => rfl
  | succ k ih => unfold State.dmaLoop; split <;> simp [ih]
@[simp] theorem dmaTick_pc (n : Nat) (s : State) : (s.dmaTick n).pc = s.pc := by unfold State.dmaTick; split <;> simp
@[simp] theorem dmaCopyByte_ime (s : State) : s.dmaCopyByte.ime = s.ime := by simp only [State.dmaCopyByte]; split <;> rfl
@[simp] theorem dmaLoop_ime (k : Nat) (s : State) : (s.dmaLoop k).ime = s.ime := by
  induction k generalizing s with
  | zero => rfl
  | succ k ih => unfold State.dmaLoop; split <;> simp [ih]
@[simp] theorem dmaTick_ime (n : Nat) (s : State) : (s.dmaTick n).ime = s.ime := by unfold State.dmaTick; split <;> simp
@[simp] theorem dmaCopyByte_eiDelay (s : State) : s.dmaCopyByte.eiDelay = s.eiDelay := by simp only [State.dmaCopyByte]; split <;> rfl
@[simp] theorem dmaLoop_eiDelay (k : Nat) (s : State) : (s.dmaLoop k).eiDelay = s.eiDelay := by
  induction k generalizing s with
  | zero => rfl
  | succ k ih => unfold State.dmaLoop; split <;> simp [ih]
@[simp] theorem dmaTick_eiDelay (n : Nat) (s : State) : (s.dmaTick n).eiDelay = s.eiDelay := by unfold State.dmaTick; split <;> simp
@[simp] theorem dmaCopyByte_haltBug (s : State) : s.dmaCopyByte.haltBug = s.haltBug := by simp only [State.dmaCopyByte]; split <;> rfl
@[simp] theorem dmaLoop_haltBug (k : Nat) (s : State) : (s.dmaLoop k).haltBug = s.haltBug := by
  induction k generalizing s with
  | zero => rfl
  | succ k ih => unfold State.dmaLoop; split <;> simp [ih]
@[simp] theorem dmaTick_haltBug (n : Nat) (s : State) : (s.dmaTick n).haltBug = s.haltBug := by unfold State.dmaTick; split <;> simp
@[simp] theorem dmaCopyByte_halted (s : State) : s.dmaCopyByte.halted = s.halted := by simp only [State.dmaCopyByte]; split <;> rfl
@[simp] theorem dmaLoop_halted (k : Nat) (s : State) : (s.dmaLoop k).halted = s.halted := by
  induction k generalizing s with
  | zero => rfl
  | succ k ih => unfold State.dmaLoop; split <;> simp [ih]
@[simp] theorem dmaTick_halted (n : Nat) (s : State) : (s.dmaTick n).halted = s.halted := by unfold State.dmaTick; split <;> simp
@[simp] theorem dmaCopyByte_inflight (s : State) : s.dmaCopyByte.inflight = s.inflight := by simp only [State.dmaCopyByte]; split <;> rfl
@[simp] theorem dmaLoop_inflight (k : Nat) (s : State) : (s.dmaLoop k).inflight = s.inflight := by
  induction k generalizing s with
  | zero => rfl
  | succ k ih => unfold State.dmaLoop; split <;> simp [ih]
@[simp] theorem dmaTick_inflight (n : Nat) (s : State) : (s.dmaTick n).inflight = s.inflight := by unfold State.dmaTick; split <;> simp
@[simp] theorem dmaCopyByte_latches (s : State) : s.dmaCopyByte.latches = s.latches := by simp only [State.dmaCopyByte]; split <;> rfl
@[simp] theorem dmaLoop_latches (k : Nat) (s : State) : (s.dmaLoop k).latches = s.latches := by
  induction k generalizing s with
  | zero => rfl
  | succ k ih => unfold State.dmaLoop; split <;> simp [ih]
@[simp] theorem dmaTick_latches (n : Nat) (s : State) : (s.dmaTick n).latches = s.latches := by unfold State.dmaTick; split <;> simp
@[simp] theorem dmaCopyByte_clock (s : State) : s.dmaCopyByte.clock = s.clock := by simp only [State.dmaCopyByte]; split <;> rfl
@[simp] theorem dmaLoop_clock (k : Nat) (s : State) : (s.dmaLoop k).clock = s.clock := by
  induction k generalizing s with
  | zero => rfl
  | succ k ih => unfold State.dmaLoop; split <;> simp [ih]
@[simp] theorem dmaTick_clock (n : Nat) (s : State) : (s.dmaTick n).clock = s.clock := by unfold State.dmaTick; split <;> simp
@[simp] theorem dmaCopyByte_diagnostics (s : State) : s.dmaCopyByte.diagnostics = s.diagnostics := by simp only [State.dmaCopyByte]; split <;> rfl
@[simp] theorem dmaLoop_diagnostics (k : Nat) (s : State) : (s.dmaLoop k).diagnostics = s.diagnostics := by
  induction k generalizing s with
  | zero => rfl
  | succ k ih => unfold State.dmaLoop; split <;> simp [ih]
@[simp] theorem dmaTick_diagnostics (n : Nat) (s : State) : (s.dmaTick n).diagnostics = s.diagnostics := by unfold State.dmaTick; split <;> simp
@[simp] theorem dmaCopyByte_ie (s : State) : s.dmaCopyByte.ie = s.ie := by simp only [State.dmaCopyByte]; split <;> rfl
@[simp] theorem dmaLoop_ie (k : Nat) (s : State) : (s.dmaLoop k).ie = s.ie := by
  induction k generalizing s with
  | zero => rfl
  | succ k ih => unfold State.dmaLoop; split <;> simp [ih]
@[simp] theorem dmaTick_ie (n : Nat) (s : State) : (s.dmaTick n).ie = s.ie := by unfold State.dmaTick; split <;> simp
@[simp] theorem dmaCopyByte_iflag (s : State) : s.dmaCopyByte.iflag = s.iflag := by simp only [State.dmaCopyByte]; split <;> rfl
@[simp] theorem dmaLoop_iflag (k : Nat) (s : State) : (s.dmaLoop k).iflag = s.iflag := by
  induction k generalizing s with
  | zero => rfl
  | succ k ih => unfold State.dmaLoop; split <;> simp [ih]
@[simp] theorem dmaTick_iflag (n : Nat) (s : State) : (s.dmaTick n).iflag = s.iflag := by unfold State.dmaTick; split <;> simp
@[simp] theorem dmaCopyByte_timer (s : State) : s.dmaCopyByte.timer = s.timer := by simp only [State.dmaCopyByte]; split <;> rfl
@[simp] theorem dmaLoop_timer (k : Nat) (s : State) : (s.dmaLoop k).timer = s.timer := by
  induction k generalizing s with
  | zero => rfl
  | succ k ih => unfold State.dmaLoop; split <;> simp [ih]
@[simp] theorem dmaTick_timer (n : Nat) (s : State) : (s.dmaTick n).timer = s.timer := by unfold State.dmaTick; split <;> simp
@[simp] theorem dmaCopyByte_lcd (s : State) : s.dmaCopyByte.lcd = s.lcd := by simp only [State.dmaCopyByte]; split <;> rfl
@[simp] theorem dmaLoop_lcd (k : Nat) (s : State) : (s.dmaLoop k).lcd = s.lcd := by
  induction k generalizing s with
  | zero => rfl
  | succ k ih => unfold State.dmaLoop; split <;> simp [ih]
@[simp] theorem dmaTick_lcd (n : Nat) (s : State) : (s.dmaTick n).lcd = s.lcd := by unfold State.dmaTick; split <;> simp
@[simp] theorem dmaCopyByte_frames (s : State) : s.dmaCopyByte.frames = s.frames := by simp only [State.dmaCopyByte]; split <;> rfl
@[simp] theorem dmaLoop_frames (k : Nat) (s : State) : (s.dmaLoop k).frames = s.frames := by
  induction k generalizing s with
  | zero => rfl
  | succ k ih => unfold State.dmaLoop; split <;> simp [ih]
@[simp] theorem dmaTick_frames (n : Nat) (s : State) : (s.dmaTick n).frames = s.frames := by unfold State.dmaTick; split <;> simp
@[simp] theorem dmaCopyByte_vram (s : State) : s.dmaCopyByte.vram = s.vram := by simp only [State.dmaCopyByte]; split <;> rfl
@[simp] theorem dmaLoop_vram (k : Nat) (s : State) : (s.dmaLoop k).vram = s.vram := by
  induction k generalizing s with
  | zero => rfl
  | succ k ih => unfold State.dmaLoop; split <;> simp [ih]
@[simp] theorem dmaTick_vram (n : Nat) (s : State) : (s.dmaTick n).vram = s.vram := by unfold State.dmaTick; split <;> simp
@[simp] theorem dmaCopyByte_wram (s : State) : s.dmaCopyByte.wram = s.wram := by simp only [State.dmaCopyByte]; split <;> rfl
@[simp] theorem dmaLoop_wram (k : Nat) (s : State) : (s.dmaLoop k).wram = s.wram := by
  induction k generalizing s with
  | zero => rfl
  | succ k ih => unfold State.dmaLoop; split <;> simp [ih]
@[simp] theorem dmaTick_wram (n : Nat) (s : State) : (s.dmaTick n).wram = s.wram := by unfold State.dmaTick; split <;> simp
@[simp] theorem dmaCopyByte_hram (s : State) : s.dmaCopyByte.hram = s.hram := by simp only [State.dmaCopyByte]; split <;> rfl
@[simp] theorem dmaLoop_hram (k : Nat) (s : State) : (s.dmaLoop k).hram = s.hram := by
  induction k generalizing s with
  | zero => rfl
  | succ k ih => unfold State.dmaLoop; split <;> simp [ih]
@[simp] theorem dmaTick_hram (n : Nat) (s : State) : (s.dmaTick n).hram = s.hram := by unfold State.dmaTick; split <;> simp
@[simp] theorem dmaCopyByte_eram (s : State) : s.dmaCopyByte.eram = s.eram := by simp only [State.dmaCopyByte]; split <;> rfl
@[simp] theorem dmaLoop_eram (k : Nat) (s : State) : (s.dmaLoop k).eram = s.eram := by
  induction k generalizing s with
  | zero => rfl
  | succ k ih => unfold State.dmaLoop; split <;> simp [ih]
@[simp] theorem dmaTick_eram (n : Nat) (s : State) : (s.dmaTick n).eram = s.eram := by unfold State.dmaTick; split <;> simp
@[simp] theorem dmaCopyByte_bootEnabled (s : State) : s.dmaCopyByte.bootEnabled = s.bootEnabled := by simp only [State.dmaCopyByte]; split <;> rfl
@[simp] theorem dmaLoop_bootEnabled (k : Nat) (s : State) : (s.dmaLoop k).bootEnabled = s.bootEnabled := by
  induction k generalizing s with
  | zero => rfl
  | succ k ih => unfold State.dmaLoop; split <;> simp [ih]
@[simp] theorem dmaTick_bootEnabled (n : Nat) (s : State) : (s.dmaTick n).bootEnabled = s.bootEnabled := by unfold State.dmaTick; split <;> simp
@[simp] theorem dmaCopyByte_mbc1 (s : State) : s.dmaCopyByte.mbc1 = s.mbc1 := by simp only [State.dmaCopyByte]; split <;> rfl
@[simp] theorem dmaLoop_mbc1 (k : Nat) (s : State) : (s.dmaLoop k).mbc1 = s.mbc1 := by
  induction k generalizing s with
  | zero => rfl
  | succ k ih => unfold State.dmaLoop; split <;> simp [ih]
@[simp] theorem dmaTick_mbc1 (n : Nat) (s : State) : (s.dmaTick n).mbc1 = s.mbc1 := by unfold State.dmaTick; split <;> simp
@[simp] theorem dmaCopyByte_joySelect (s : State) : s.dmaCopyByte.joySelect = s.joySelect := by simp only [State.dmaCopyByte]; split <;> rfl
@[simp] theorem dmaLoop_joySelect (k : Nat) (s : State) : (s.dmaLoop k).joySelect = s.joySelect := by
  induction k generalizing s with
  | zero => rfl
  | succ k ih => unfold State.dmaLoop; split <;> simp [ih]
@[simp] theorem dmaTick_joySelect (n : Nat) (s : State) : (s.dmaTick n).joySelect = s.joySelect := by unfold State.dmaTick; split <;> simp
@[simp] theorem dmaCopyByte_params (s : State) : s.dmaCopyByte.params = s.params := by simp only [State.dmaCopyByte]; split <;> rfl
@[simp] theorem dmaLoop_params (k : Nat) (s : State) : (s.dmaLoop k).params = s.params := by
  induction k generalizing s with
  | zero => rfl
  | succ k ih => unfold State.dmaLoop; split <;> simp [ih]
@[simp] theorem dmaTick_params (n : Nat) (s : State) : (s.dmaTick n).params = s.params := by unfold State.dmaTick; split <;> simp

/-! ## The whole part of a system step -/

@[simp] theorem tick_regs (s : State) : s.tick.regs = s.regs := by simp [State.tick]
@[simp] theorem tick_flags (s : State) : s.tick.flags = s.flags := by simp [State.tick]
@[simp] theorem tick_sp (s : State) : s.tick.sp = s.sp := by simp [State.tick]
@[simp] theorem tick_pc (s : State) : s.tick.pc = s.pc := by simp [State.tick]
@[simp] theorem tick_ime (s : State) : s.tick.ime = s.ime := by simp [State.tick]
@[simp] theorem tick_eiDelay (s : State) : s.tick.eiDelay = s.eiDelay := by simp [State.tick]
@[simp] theorem tick_haltBug (s : State) : s.tick.haltBug = s.haltBug := by simp [State.tick]
@[simp] theorem tick_halted (s : State) : s.tick.halted = s.halted := by simp [State.tick]
@[simp] theorem tick_inflight (s : State) : s.tick.inflight = s.inflight := by simp [State.tick]
@[simp] theorem tick_latches (s : State) : s.tick.latches = s.latches := by simp [State.tick]
@[simp] theorem tick_diagnostics (s : State) : s.tick.diagnostics = s.diagnostics := by simp [State.tick]
@[simp] theorem tick_ie (s : State) : s.tick.ie = s.ie := by simp [State.tick]
@[simp] theorem tick_vram (s : State) : s.tick.vram = s.vram := by simp [State.tick]
@[simp] theorem tick_wram (s : State) : s.tick.wram = s.wram := by simp [State.tick]
@[simp] theorem tick_hram (s : State) : s.tick.hram = s.hram := by simp [State.tick]
@[simp] theorem tick_eram (s : State) : s.tick.eram = s.eram := by simp [State.tick]
@[simp] theorem tick_bootEnabled (s : State) : s.tick.bootEnabled = s.bootEnabled := by simp [State.tick]
@[simp] theorem tick_mbc1 (s : State) : s.tick.mbc1 = s.mbc1 := by simp [State.tick]
@[simp] theorem tick_joySelect (s : State) : s.tick.joySelect = s.joySelect := by simp [State.tick]
@[simp] theorem tick_params (s : State) : s.tick.params = s.params := by simp [State.tick]
@[simp] theorem tick_clock (s : State) : s.tick.clock = s.clock + 4 := by simp [State.tick]
@[simp] theorem tick_reg (s : State) (r : R8) : s.tick.reg r = s.reg r := by cases r <;> simp [State.reg]
@[simp] theorem tick_bc (s : State) : s.tick.bc = s.bc := by simp [State.bc]
@[simp] theorem tick_de (s : State) : s.tick.de = s.de := by simp [State.de]
@[simp] theorem tick_hl (s : State) : s.tick.hl = s.hl := by simp [State.hl]
@[simp] theorem tick_af (s : State) : s.tick.af = s.af := by simp [State.af]
@[simp] theorem tick_pair (s : State) (p : Pair) : s.tick.pair p = s.pair p := by cases p <;> simp [State.pair]
@[simp] theorem tick_stackPair (s : State) (p : StackPair) : s.tick.stackPair p = s.stackPair p := by
  cases p <;> simp [State.stackPair]
@[simp] theorem tick_address (s : State) (a : Addr) : s.tick.address a = s.address a := by cases a <;> simp [State.address]

/-! ## Bus writes -/

@[simp] theorem writeRom_regs (s : State) (a : Nat) (v : Byte) : (s.writeRom a v).regs = s.regs := by unfold State.writeRom; split <;> rfl
@[simp] theorem writeEram_regs (s : State) (a : Nat) (v : Byte) : (s.writeEram a v).regs = s.regs := by unfold State.writeEram; split <;> rfl
@[simp] theorem writeStat_regs (s : State) (v : Byte) : (s.writeStat v).regs = s.regs := by simp [State.writeStat]
@[simp] theorem writeLcdReg_regs (s : State) (a : Nat) (v : Byte) : (s.writeLcdReg a v).regs = s.regs := by unfold State.writeLcdReg; split <;> simp
@[simp] theorem writeBoot_regs (s : State) (v : Byte) : (s.writeBoot v).regs = s.regs := by unfold State.writeBoot; split <;> rfl
@[simp] theorem busWrite_regs (s : State) (a : Word) (v : Byte) : (s.busWrite a v).regs = s.regs := by
  simp only [State.busWrite, apply_ite State.regs, writeRom_regs, writeEram_regs, writeLcdReg_regs, writeBoot_regs, State.writeJoypad,
    State.writeIf, State.startDma, State.writeIe, ite_self]
@[simp] theorem memWrite_regs (s : State) (a : Word) (v : Byte) : (s.memWrite a v).regs = s.regs := by unfold State.memWrite; split <;> simp
@[simp] theorem pushByte_regs (s : State) (v : Byte) : (s.pushByte v).regs = s.regs := by simp [State.pushByte]
@[simp] theorem writeRom_flags (s : State) (a : Nat) (v : Byte) : (s.writeRom a v).flags = s.flags := by unfold State.writeRom; split <;> rfl
@[simp] theorem writeEram_flags (s : State) (a : Nat) (v : Byte) : (s.writeEram a v).flags = s.flags := by unfold State.writeEram; split <;> rfl
@[simp] theorem writeStat_flags (s : State) (v : Byte) : (s.writeStat v).flags = s.flags := by simp [State.writeStat]
@[simp] theorem writeLcdReg_flags (s : State) (a : Nat) (v : Byte) : (s.writeLcdReg a v).flags = s.flags := by unfold State.writeLcdReg; split <;> simp
@[simp] theorem writeBoot_flags (s : State) (v : Byte) : (s.writeBoot v).flags = s.flags := by unfold State.writeBoot; split <;> rfl
@[simp] theorem busWrite_flags (s : State) (a : Word) (v : Byte) : (s.busWrite a v).flags = s.flags := by
  simp only [State.busWrite, apply_ite State.flags, writeRom_flags, writeEram_flags, writeLcdReg_flags, writeBoot_flags, State.writeJoypad,
    State.writeIf, State.startDma, State.writeIe, ite_self]
@[simp] theorem memWrite_flags (s : State) (a : Word) (v : Byte) : (s.memWrite a v).flags = s.flags := by unfold State.memWrite; split <;> simp
@[simp] theorem pushByte_flags (s : State) (v : Byte) : (s.pushByte v).flags = s.flags := by simp [State.pushByte]
@[simp] theorem writeRom_sp (s : State) (a : Nat) (v : Byte) : (s.writeRom a v).sp = s.sp := by unfold State.writeRom; split <;> rfl
@[simp] theorem writeEram_sp (s : State) (a : Nat) (v : Byte) : (s.writeEram a v).sp = s.sp := by unfold State.writeEram; split <;> rfl
@[simp] theorem writeStat_sp (s : State) (v : Byte) : (s.writeStat v).sp = s.sp := by simp [State.writeStat]
@[simp] theorem writeLcdReg_sp (s : State) (a : Nat) (v : Byte) : (s.writeLcdReg a v).sp = s.sp := by unfold State.writeLcdReg; split <;> simp
@[simp] theorem writeBoot_sp (s : State) (v : Byte) : (s.writeBoot v).sp = s.sp := by unfold State.writeBoot; split <;> rfl
@[simp] theorem busWrite_sp (s : State) (a : Word) (v : Byte) : (s.busWrite a v).sp = s.sp := by
  simp only [State.busWrite, apply_ite State.sp, writeRom_sp, writeEram_sp, writeLcdReg_sp, writeBoot_sp, State.writeJoypad,
    State.writeIf, State.startDma, State.writeIe, ite_self]
@[simp] theorem memWrite_sp (s : State) (a : Word) (v : Byte) : (s.memWrite a v).sp = s.sp := by unfold State.memWrite; split <;> simp
@[simp] theorem writeRom_pc (s : State) (a : Nat) (v : Byte) : (s.writeRom a v).pc = s.pc := by unfold State.writeRom; split <;> rfl
@[simp] theorem writeEram_pc (s : State) (a : Nat) (v : Byte) : (s.writeEram a v).pc = s.pc := by unfold State.writeEram; split <;> rfl
@[simp] theorem writeStat_pc (s : State) (v : Byte) : (s.writeStat v).pc = s.pc := by simp [State.writeStat]
@[simp] theorem writeLcdReg_pc (s : State) (a : Nat) (v : Byte) : (s.writeLcdReg a v).pc = s.pc := by unfold State.writeLcdReg; split <;> simp
@[simp] theorem writeBoot_pc (s : State) (v : Byte) : (s.writeBoot v).pc = s.pc := by unfold State.writeBoot; split <;> rfl
@[simp] theorem busWrite_pc (s : State) (a : Word) (v : Byte) : (s.busWrite a v).pc = s.pc := by
  simp only [State.busWrite, apply_ite State.pc, writeRom_pc, writeEram_pc, writeLcdReg_pc, writeBoot_pc, State.writeJoypad,
    State.writeIf, State.startDma, State.writeIe, ite_self]
@[simp] theorem memWrite_pc (s : State) (a : Word) (v : Byte) : (s.memWrite a v).pc = s.pc := by unfold State.memWrite; split <;> simp
@[simp] theorem pushByte_pc (s : State) (v : Byte) : (s.pushByte v).pc = s.pc := by simp [State.pushByte]
@[simp] theorem writeRom_ime (s : State) (a : Nat) (v : Byte) : (s.writeRom a v).ime = s.ime := by unfold State.writeRom; split <;> rfl
@[simp] theorem writeEram_ime (s : State) (a : Nat) (v : Byte) : (s.writeEram a v).ime = s.ime := by unfold State.writeEram; split <;> rfl
@[simp] theorem writeStat_ime (s : State) (v : Byte) : (s.writeStat v).ime = s.ime := by simp [State.writeStat]
@[simp] theorem writeLcdReg_ime (s : State) (a : Nat) (v : Byte) : (s.writeLcdReg a v).ime = s.ime := by unfold State.writeLcdReg; split <;> simp
@[simp] theorem writeBoot_ime (s : State) (v : Byte) : (s.writeBoot v).ime = s.ime := by unfold State.writeBoot; split <;> rfl
@[simp] theorem busWrite_ime (s : State) (a : Word) (v : Byte) : (s.busWrite a v).ime = s.ime := by
  simp only [State.busWrite, apply_ite State.ime, writeRom_ime, writeEram_ime, writeLcdReg_ime, writeBoot_ime, State.writeJoypad,
    State.writeIf, State.startDma, State.writeIe, ite_self]
@[simp] theorem memWrite_ime (s : State) (a : Word) (v : Byte) : (s.memWrite a v).ime = s.ime := by unfold State.memWrite; split <;> simp
@[simp] theorem pushByte_ime (s : State) (v : Byte) : (s.pushByte v).ime = s.ime := by simp [State.pushByte]
@[simp] theorem writeRom_eiDelay (s : State) (a : Nat) (v : Byte) : (s.writeRom a v).eiDelay = s.eiDelay := by unfold State.writeRom; split <;> rfl
@[simp] theorem writeEram_eiDelay (s : State) (a : Nat) (v : Byte) : (s.writeEram a v).eiDelay = s.eiDelay := by unfold State.writeEram; split <;> rfl
@[simp] theorem writeStat_eiDelay (s : State) (v : Byte) : (s.writeStat v).eiDelay = s.eiDelay := by simp [State.writeStat]
@[simp] theorem writeLcdReg_eiDelay (s : State) (a : Nat) (v : Byte) : (s.writeLcdReg a v).eiDelay = s.eiDelay := by unfold State.writeLcdReg; split <;> simp
@[simp] theorem writeBoot_eiDelay (s : State) (v : Byte) : (s.writeBoot v).eiDelay = s.eiDelay := by unfold State.writeBoot; split <;> rfl
@[simp] theorem busWrite_eiDelay (s : State) (a : Word) (v : Byte) : (s.busWrite a v).eiDelay = s.eiDelay := by
  simp only [State.busWrite, apply_ite State.eiDelay, writeRom_eiDelay, writeEram_eiDelay, writeLcdReg_eiDelay, writeBoot_eiDelay, State.writeJoypad,
    State.writeIf, State.startDma, State.writeIe, ite_self]
@[simp] theorem memWrite_eiDelay (s : State) (a : Word) (v : Byte) : (s.memWrite a v).eiDelay = s.eiDelay := by unfold State.memWrite; split <;> simp
@[simp] theorem pushByte_eiDelay (s : State) (v : Byte) : (s.pushByte v).eiDelay = s.eiDelay := by simp [State.pushByte]
@[simp] theorem writeRom_haltBug (s : State) (a : Nat) (v : Byte) : (s.writeRom a v).haltBug = s.haltBug := by unfold State.writeRom; split <;> rfl
@[simp] theorem writeEram_haltBug (s : State) (a : Nat) (v : Byte) : (s.writeEram a v).haltBug = s.haltBug := by unfold State.writeEram; split <;> rfl
@[simp] theorem writeStat_haltBug (s : State) (v : Byte) : (s.writeStat v).haltBug = s.haltBug := by simp [State.writeStat]
@[simp] theorem writeLcdReg_haltBug (s : State) (a : Nat) (v : Byte) : (s.writeLcdReg a v).haltBug = s.haltBug := by unfold State.writeLcdReg; split <;> simp
@[simp] theorem writeBoot_haltBug (s : State) (v : Byte) : (s.writeBoot v).haltBug = s.haltBug := by unfold State.writeBoot; split <;> rfl
@[simp] theorem busWrite_haltBug (s : State) (a : Word) (v : Byte) : (s.busWrite a v).haltBug = s.haltBug := by
  simp only [State.busWrite, apply_ite State.haltBug, writeRom_haltBug, writeEram_haltBug, writeLcdReg_haltBug, writeBoot_haltBug, State.writeJoypad,
    State.writeIf, State.startDma, State.writeIe, ite_self]
@[simp] theorem memWrite_haltBug (s : State) (a : Word) (v : Byte) : (s.memWrite a v).haltBug = s.haltBug := by unfold State.memWrite; split <;> simp
@[simp] theorem pushByte_haltBug (s : State) (v : Byte) : (s.pushByte v).haltBug = s.haltBug := by simp [State.pushByte]
@[simp] theorem writeRom_halted (s : State) (a : Nat) (v : Byte) : (s.writeRom a v).halted = s.halted := by unfold State.writeRom; split <;> rfl
@[simp] theorem writeEram_halted (s : State) (a : Nat) (v : Byte) : (s.writeEram a v).halted = s.halted := by unfold State.writeEram; split <;> rfl
@[simp] theorem writeStat_halted (s : State) (v : Byte) : (s.writeStat v).halted = s.halted := by simp [State.writeStat]
@[simp] theorem writeLcdReg_halted (s : State) (a : Nat) (v : Byte) : (s.writeLcdReg a v).halted = s.halted := by unfold State.writeLcdReg; split <;> simp
@[simp] theorem writeBoot_halted (s : State) (v : Byte) : (s.writeBoot v).halted = s.halted := by unfold State.writeBoot; split <;> rfl
@[simp] theorem busWrite_halted (s : State) (a : Word) (v : Byte) : (s.busWrite a v).halted = s.halted := by
  simp only [State.busWrite, apply_ite State.halted, writeRom_halted, writeEram_halted, writeLcdReg_halted, writeBoot_halted, State.writeJoypad,
    State.writeIf, State.startDma, State.writeIe, ite_self]
@[simp] theorem memWrite_halted (s : State) (a : Word) (v : Byte) : (s.memWrite a v).halted = s.halted := by unfold State.memWrite; split <;> simp
@[simp] theorem pushByte_halted (s : State) (v : Byte) : (s.pushByte v).halted = s.halted := by simp [State.pushByte]
@[simp] theorem writeRom_inflight (s : State) (a : Nat) (v : Byte) : (s.writeRom a v).inflight = s.inflight := by unfold State.writeRom; split <;> rfl
@[simp] theorem writeEram_inflight (s : State) (a : Nat) (v : Byte) : (s.writeEram a v).inflight = s.inflight := by unfold State.writeEram; split <;> rfl
@[simp] theorem writeStat_inflight (s : State) (v : Byte) : (s.writeStat v).inflight = s.inflight := by simp [State.writeStat]
@[simp] theorem writeLcdReg_inflight (s : State) (a : Nat) (v : Byte) : (s.writeLcdReg a v).inflight = s.inflight := by unfold State.writeLcdReg; split <;> simp
@[simp] theorem writeBoot_inflight (s : State) (v : Byte) : (s.writeBoot v).inflight = s.inflight := by unfold State.writeBoot; split <;> rfl
@[simp] theorem busWrite_inflight (s : State) (a : Word) (v : Byte) : (s.busWrite a v).inflight = s.inflight := by
  simp only [State.busWrite, apply_ite State.inflight, writeRom_inflight, writeEram_inflight, writeLcdReg_inflight, writeBoot_inflight, State.writeJoypad,
    State.writeIf, State.startDma, State.writeIe, ite_self]
@[simp] theorem memWrite_inflight (s : State) (a : Word) (v : Byte) : (s.memWrite a v).inflight = s.inflight := by unfold State.memWrite; split <;> simp
@[simp] theorem pushByte_inflight (s : State) (v : Byte) : (s.pushByte v).inflight = s.inflight := by simp [State.pushByte]
@[simp] theorem writeRom_latches (s : State) (a : Nat) (v : Byte) : (s.writeRom a v).latches = s.latches := by unfold State.writeRom; split <;> rfl
@[simp] theorem writeEram_latches (s : State) (a : Nat) (v : Byte) : (s.writeEram a v).latches = s.latches := by unfold State.writeEram; split <;> rfl
@[simp] theorem writeStat_latches (s : State) (v : Byte) : (s.writeStat v).latches = s.latches := by simp [State.writeStat]
@[simp] theorem writeLcdReg_latches (s : State) (a : Nat) (v : Byte) : (s.writeLcdReg a v).latches = s.latches := by unfold State.writeLcdReg; split <;> simp
@[simp] theorem writeBoot_latches (s : State) (v : Byte) : (s.writeBoot v).latches = s.latches := by unfold State.writeBoot; split <;> rfl
@[simp] theorem busWrite_latches (s : State) (a : Word) (v : Byte) : (s.busWrite a v).latches = s.latches := by
  simp only [State.busWrite, apply_ite State.latches, writeRom_latches, writeEram_latches, writeLcdReg_latches, writeBoot_latches, State.writeJoypad,
    State.writeIf, State.startDma, State.writeIe, ite_self]
@[simp] theorem memWrite_latches (s : State) (a : Word) (v : Byte) : (s.memWrite a v).latches = s.latches := by unfold State.memWrite; split <;> simp
@[simp] theorem pushByte_latches (s : State) (v : Byte) : (s.pushByte v).latches = s.latches := by simp [State.pushByte]
@[simp] theorem writeRom_clock (s : State) (a : Nat) (v : Byte) : (s.writeRom a v).clock = s.clock := by unfold State.writeRom; split <;> rfl
@[simp] theorem writeEram_clock (s : State) (a : Nat) (v : Byte) : (s.writeEram a v).clock = s.clock := by unfold State.writeEram; split <;> rfl
@[simp] theorem writeStat_clock (s : State) (v : Byte) : (s.writeStat v).clock = s.clock := by simp [State.writeStat]
@[simp] theorem writeLcdReg_clock (s : State) (a : Nat) (v : Byte) : (s.writeLcdReg a v).clock = s.clock := by unfold State.writeLcdReg; split <;> simp
@[simp] theorem writeBoot_clock (s : State) (v : Byte) : (s.writeBoot v).clock = s.clock := by unfold State.writeBoot; split <;> rfl
@[simp] theorem busWrite_clock (s : State) (a : Word) (v : Byte) : (s.busWrite a v).clock = s.clock := by
  simp only [State.busWrite, apply_ite State.clock, writeRom_clock, writeEram_clock, writeLcdReg_clock, writeBoot_clock, State.writeJoypad,
    State.writeIf, State.startDma, State.writeIe, ite_self]
@[simp] theorem memWrite_clock (s : State) (a : Word) (v : Byte) : (s.memWrite a v).clock = s.clock := by unfold State.memWrite; split <;> simp
@[simp] theorem pushByte_clock (s : State) (v : Byte) : (s.pushByte v).clock = s.clock := by simp [State.pushByte]
@[simp] theorem writeRom_diagnostics (s : State) (a : Nat) (v : Byte) : (s.writeRom a v).diagnostics = s.diagnostics := by unfold State.writeRom; split <;> rfl
@[simp] theorem writeEram_diagnostics (s : State) (a : Nat) (v : Byte) : (s.writeEram a v).diagnostics = s.diagnostics := by unfold State.writeEram; split <;> rfl
@[simp] theorem writeStat_diagnostics (s : State) (v : Byte) : (s.writeStat v).diagnostics = s.diagnostics := by simp [State.writeStat]
@[simp] theorem writeLcdReg_diagnostics (s : State) (a : Nat) (v : Byte) : (s.writeLcdReg a v).diagnostics = s.diagnostics := by unfold State.writeLcdReg; split <;> simp
@[simp] theorem writeBoot_diagnostics (s : State) (v : Byte) : (s.writeBoot v).diagnostics = s.diagnostics := by unfold State.writeBoot; split <;> rfl
@[simp] theorem busWrite_diagnostics (s : State) (a : Word) (v : Byte) : (s.busWrite a v).diagnostics = s.diagnostics := by
  simp only [State.busWrite, apply_ite State.diagnostics, writeRom_diagnostics, writeEram_diagnostics, writeLcdReg_diagnostics, writeBoot_diagnostics, State.writeJoypad,
    State.writeIf, State.startDma, State.writeIe, ite_self]
@[simp] theorem memWrite_diagnostics (s : State) (a : Word) (v : Byte) : (s.memWrite a v).diagnostics = s.diagnostics := by unfold State.memWrite; split <;> simp
@[simp] theorem pushByte_diagnostics (s : State) (v : Byte) : (s.pushByte v).diagnostics = s.diagnostics := by simp [State.pushByte]
@[simp] theorem writeRom_frames (s : State) (a : Nat) (v : Byte) : (s.writeRom a v).frames = s.frames := by unfold State.writeRom; split <;> rfl
@[simp] theorem writeEram_frames (s : State) (a : Nat) (v : Byte) : (s.writeEram a v).frames = s.frames := by unfold State.writeEram; split <;> rfl
@[simp] theorem writeStat_frames (s : State) (v : Byte) : (s.writeStat v).frames = s.frames := by simp [State.writeStat]
@[simp] theorem updateCoincidence_frames (s : State) (o : Bool) : (s.updateCoincidence o).frames = s.frames := by simp [State.updateCoincidence]
@[simp] theorem writeLcdReg_frames (s : State) (a : Nat) (v : Byte) : (s.writeLcdReg a v).frames = s.frames := by unfold State.writeLcdReg; split <;> simp
@[simp] theorem writeBoot_frames (s : State) (v : Byte) : (s.writeBoot v).frames = s.frames := by unfold State.writeBoot; split <;> rfl
@[simp] theorem busWrite_frames (s : State) (a : Word) (v : Byte) : (s.busWrite a v).frames = s.frames := by
  simp only [State.busWrite, apply_ite State.frames, writeRom_frames, writeEram_frames, writeLcdReg_frames, writeBoot_frames, State.writeJoypad,
    State.writeIf, State.startDma, State.writeIe, ite_self]
@[simp] theorem memWrite_frames (s : State) (a : Word) (v : Byte) : (s.memWrite a v).frames = s.frames := by unfold State.memWrite; split <;> simp
@[simp] theorem pushByte_frames (s : State) (v : Byte) : (s.pushByte v).frames = s.frames := by simp [State.pushByte]
@[simp] theorem writeRom_params (s : State) (a : Nat) (v : Byte) : (s.writeRom a v).params = s.params := by unfold State.writeRom; split <;> rfl
@[simp] theorem writeEram_params (s : State) (a : Nat) (v : Byte) : (s.writeEram a v).params = s.params := by unfold State.writeEram; split <;> rfl
@[simp] theorem writeStat_params (s : State) (v : Byte) : (s.writeStat v).params = s.params := by simp [State.writeStat]
@[simp] theorem writeLcdReg_params (s : State) (a : Nat) (v : Byte) : (s.writeLcdReg a v).params = s.params := by unfold State.writeLcdReg; split <;> simp
@[simp] theorem writeBoot_params (s : State) (v : Byte) : (s.writeBoot v).params = s.params := by unfold State.writeBoot; split <;> rfl
@[simp] theorem busWrite_params (s : State) (a : Word) (v : Byte) : (s.busWrite a v).params = s.params := by
  simp only [State.busWrite, apply_ite State.params, writeRom_params, writeEram_params, writeLcdReg_params, writeBoot_params, State.writeJoypad,
    State.writeIf, State.startDma, State.writeIe, ite_self]
@[simp] theorem memWrite_params (s : State) (a : Word) (v : Byte) : (s.memWrite a v).params = s.params := by unfold State.memWrite; split <;> simp
@[simp] theorem pushByte_params (s : State) (v : Byte) : (s.pushByte v).params = s.params := by simp [State.pushByte]
@[simp] theorem pushByte_sp (s : State) (v : Byte) : (s.pushByte v).sp = s.sp - 1 := by simp [State.pushByte]
@[simp] theorem memWrite_reg (s : State) (a : Word) (v : Byte) (r : R8) : (s.memWrite a v).reg r = s.reg r := by
  cases r <;> simp [State.reg]
@[simp] theorem memWrite_hl (s : State) (a : Word) (v : Byte) : (s.memWrite a v).hl = s.hl := by simp [State.hl]
@[simp] theorem pushByte_reg (s : State) (v : Byte) (r : R8) : (s.pushByte v).reg r = s.reg r := by cases r <;> simp [State.reg]
@[simp] theorem pushByte_stackPair (s : State) (v : Byte) (p : StackPair) : (s.pushByte v).stackPair p = s.stackPair p := by
  cases p <;> simp [State.stackPair, State.bc, State.de, State.hl, State.af]

end Sys2Proof.Machine
end

