-- ==== Sys2Proof/Laws/Memory.lean ====
section
/-! SUPPORT. The laws of a memory array: a read after a write, the canonical form kept, and equality of canonical arrays. -/
namespace Sys2Proof

@[simp] theorem Memory.read_nil (a : Nat) : Memory.read [] a = unlistedByte := rfl

theorem Memory.read_cons_pair (k : Nat) (w : Byte) (m : Memory) (a : Nat) :
    Memory.read ((k, w) :: m) a = if k = a then w else m.read a := rfl

/-- An offset below every listed one reads the unlisted value. -/
theorem Memory.read_of_forall_lt {m : Memory} {a : Nat} (h : ∀ x ∈ m, a < x.1) : m.read a = unlistedByte := by
  induction m with
  | nil => rfl
  | cons x m ih =>
    rw [Memory.read_cons_pair, if_neg (Nat.ne_of_gt (h x (by simp)))]
    exact ih fun y hy => h y (by simp [hy])

/-- An offset that no pair lists reads the unlisted value. -/
theorem Memory.read_of_within {size : Nat} {m : Memory} {a : Nat} (h : Memory.within size m) (ha : size ≤ a) :
    m.read a = unlistedByte := by
  induction m with
  | nil => rfl
  | cons x m ih =>
    have hx : x.1 < size := h x (by simp)
    rw [Memory.read_cons_pair, if_neg (by omega)]
    exact ih fun y hy => h y (by simp [hy])

theorem Memory.wf_tail {x : Host.Cell} {m : Memory} (h : Memory.wf (x :: m)) : m.wf :=
  ⟨(List.pairwise_cons.mp h.1).2, fun y hy => h.2 y (by simp [hy])⟩

theorem Memory.wf_head {x : Host.Cell} {m : Memory} (h : Memory.wf (x :: m)) : ∀ y ∈ m, x.1 < y.1 :=
  (List.pairwise_cons.mp h.1).1

/-- Putting a pair in front reads as that pair's value, and elsewhere as before, when the offset was not listed. -/
theorem Memory.read_cons {m : Memory} {a : Nat} (v : Byte) (h : ∀ x ∈ m, a < x.1) (b : Nat) :
    (Memory.cons a v m).read b = if a = b then v else m.read b := by
  unfold Memory.cons
  split
  · next hv =>
    split
    · next hab => rw [← hab, Memory.read_of_forall_lt h, hv]
    · rfl
  · rfl

theorem Memory.wf_cons {m : Memory} {a : Nat} (v : Byte) (hm : m.wf) (h : ∀ x ∈ m, a < x.1) : (Memory.cons a v m).wf := by
  unfold Memory.cons
  split
  · exact hm
  · next hv =>
    refine ⟨List.pairwise_cons.mpr ⟨h, hm.1⟩, fun x hx => ?_⟩
    rcases List.mem_cons.mp hx with rfl | hx
    · exact hv
    · exact hm.2 x hx

theorem Memory.mem_cons_le {m : Memory} {a : Nat} {v : Byte} {x : Host.Cell} (h : x ∈ Memory.cons a v m) :
    x.1 = a ∨ x ∈ m := by
  unfold Memory.cons at h
  split at h
  · exact .inr h
  · rcases List.mem_cons.mp h with rfl | h
    · exact .inl rfl
    · exact .inr h

/-- A write lists no offset but the written one and those listed before. -/
theorem Memory.mem_write {m : Memory} {a : Nat} {v : Byte} {x : Host.Cell} (h : x ∈ m.write a v) : x.1 = a ∨ x ∈ m := by
  induction m with
  | nil => exact Memory.mem_cons_le h
  | cons y m ih =>
    obtain ⟨k, w⟩ := y
    simp only [Memory.write] at h
    split at h
    · exact Memory.mem_cons_le h
    · split at h
      · rcases Memory.mem_cons_le h with h | h
        · exact .inl h
        · exact .inr (by simp [h])
      · rcases List.mem_cons.mp h with rfl | h
        · exact .inr (by simp)
        · rcases ih h with h | h
          · exact .inl h
          · exact .inr (by simp [h])

/-- A read after a write: the written value there, the value before everywhere else. -/
theorem Memory.read_write {m : Memory} (hm : m.wf) (a : Nat) (v : Byte) (b : Nat) :
    (m.write a v).read b = if a = b then v else m.read b := by
  induction m with
  | nil => exact Memory.read_cons v (by simp) b
  | cons x m ih =>
    obtain ⟨k, w⟩ := x
    have hk := Memory.wf_head hm
    simp only [Memory.write]
    split
    · next hak =>
      refine Memory.read_cons v (fun y hy => ?_) b
      rcases List.mem_cons.mp hy with rfl | hy
      · exact hak
      · exact Nat.lt_trans hak (hk y hy)
    · split
      · next hak =>
        subst hak
        rw [Memory.read_cons v hk, Memory.read_cons_pair]
        split <;> rfl
      · next hak =>
        rw [Memory.read_cons_pair, ih (Memory.wf_tail hm), Memory.read_cons_pair]
        split
        · next hkb => rw [if_neg (by omega)]
        · rfl

/-- A write keeps the canonical form. -/
theorem Memory.wf_write {m : Memory} (hm : m.wf) (a : Nat) (v : Byte) : (m.write a v).wf := by
  induction m with
  | nil => exact Memory.wf_cons v hm (by simp)
  | cons x m ih =>
    obtain ⟨k, w⟩ := x
    have hk := Memory.wf_head hm
    simp only [Memory.write]
    split
    · next hak =>
      refine Memory.wf_cons v hm fun y hy => ?_
      rcases List.mem_cons.mp hy with rfl | hy
      · exact hak
      · exact Nat.lt_trans hak (hk y hy)
    · split
      · next hak => subst hak; exact Memory.wf_cons v (Memory.wf_tail hm) hk
      · next hlt hne =>
        have ih := ih (Memory.wf_tail hm)
        refine ⟨List.pairwise_cons.mpr ⟨fun y hy => ?_, ih.1⟩, fun y hy => ?_⟩
        · rcases Memory.mem_write hy with h | h
          · show k < y.1
            omega
          · exact hk y h
        · rcases List.mem_cons.mp hy with rfl | hy
          · exact hm.2 _ (by simp)
          · exact ih.2 y hy

/-- A write inside the array stays inside. -/
theorem Memory.within_write {size : Nat} {m : Memory} (hm : Memory.within size m) {a : Nat} (ha : a < size) (v : Byte) :
    Memory.within size (m.write a v) := by
  intro x hx
  rcases Memory.mem_write hx with h | h
  · omega
  · exact hm x h

/-- Canonical arrays that read alike are equal. -/
theorem Memory.ext_of_read {m n : Memory} (hm : m.wf) (hn : n.wf) (h : ∀ a, m.read a = n.read a) : m = n := by
  induction m generalizing n with
  | nil =>
    cases n with
    | nil => rfl
    | cons y n =>
      have := h y.1
      rw [Memory.read_nil, Memory.read_cons_pair, if_pos rfl] at this
      exact absurd this.symm (hn.2 y (by simp))
  | cons x m ih =>
    cases n with
    | nil =>
      have := h x.1
      rw [Memory.read_nil, Memory.read_cons_pair, if_pos rfl] at this
      exact absurd this (hm.2 x (by simp))
    | cons y n =>
      obtain ⟨k, w⟩ := x
      obtain ⟨l, u⟩ := y
      have hkm := Memory.wf_head hm
      have hln := Memory.wf_head hn
      have hw : w ≠ unlistedByte := hm.2 (k, w) (by simp)
      have hu : u ≠ unlistedByte := hn.2 (l, u) (by simp)
      have hkl : k = l := by
        rcases Nat.lt_trichotomy k l with hlt | heq | hgt
        · have := h k
          rw [Memory.read_cons_pair, if_pos rfl, Memory.read_of_forall_lt (m := (l, u) :: n) (a := k)] at this
          · exact absurd this hw
          · intro z hz
            rcases List.mem_cons.mp hz with rfl | hz
            · exact hlt
            · exact Nat.lt_trans hlt (hln z hz)
        · exact heq
        · have := h l
          rw [Memory.read_cons_pair l u n l, if_pos rfl, Memory.read_of_forall_lt (m := (k, w) :: m) (a := l)] at this
          · exact absurd this.symm hu
          · intro z hz
            rcases List.mem_cons.mp hz with rfl | hz
            · exact hgt
            · exact Nat.lt_trans hgt (hkm z hz)
      subst hkl
      have hwu : w = u := by simpa [Memory.read_cons_pair] using h k
      subst hwu
      congr 1
      refine ih (Memory.wf_tail hm) (Memory.wf_tail hn) fun a => ?_
      have := h a
      rw [Memory.read_cons_pair, Memory.read_cons_pair] at this
      split at this
      · next hka => subst hka; rw [Memory.read_of_forall_lt hkm, Memory.read_of_forall_lt hln]
      · exact this

end Sys2Proof
end

