-- ==== Sys2Proof/Laws/Bus.lean ====
section
/-! SUPPORT. The bus decode of rule R62, one lemma per row for a read and one for a write, so that no proof walks through the
chain of tests again. -/
namespace Sys2Proof.Machine

/-- The boot overlay answers no address at or above 0x100 (R63). -/
theorem bootCovers_high (s : State) {a : Nat} (h : 0x100 ≤ a) : s.bootCovers a = false := by
  have : decide (a < 0x100) = false := decide_eq_false (by omega)
  simp [State.bootCovers, this]

theorem busRead_boot (s : State) {a : Word} (h : s.bootCovers a.toNat = true) : s.busRead a = s.params.bootRom.read a.toNat := by
  simp only [State.busRead, h, if_true]

theorem busRead_rom (s : State) {a : Word} (h : a.toNat ≤ 0x7FFF) (hb : s.bootCovers a.toNat = false) :
    s.busRead a = s.readRom a.toNat := by
  simp only [State.busRead, hb, Bool.false_eq_true, if_false]
  rw [if_pos h]

theorem busWrite_rom (s : State) {a : Word} (v : Byte) (h : a.toNat ≤ 0x7FFF) :
    s.busWrite a v = s.writeRom a.toNat v := by
  simp only [State.busWrite]
  rw [if_pos (by omega)]

theorem busRead_vram (s : State) {a : Word} (h : 0x8000 ≤ a.toNat) (h' : a.toNat ≤ 0x9FFF) :
    s.busRead a = s.vram.read (a.toNat - 0x8000) := by
  simp only [State.busRead, bootCovers_high s (show 0x100 ≤ a.toNat by omega), Bool.false_eq_true, if_false]
  repeat rw [if_neg (by omega)]
  rw [if_pos (by omega)]

theorem busWrite_vram (s : State) {a : Word} (v : Byte) (h : 0x8000 ≤ a.toNat) (h' : a.toNat ≤ 0x9FFF) :
    s.busWrite a v = { s with vram := s.vram.write (a.toNat - 0x8000) v } := by
  simp only [State.busWrite]
  repeat rw [if_neg (by omega)]
  rw [if_pos (by omega)]

theorem busRead_eram (s : State) {a : Word} (h : 0xA000 ≤ a.toNat) (h' : a.toNat ≤ 0xBFFF) :
    s.busRead a = s.readEram a.toNat := by
  simp only [State.busRead, bootCovers_high s (show 0x100 ≤ a.toNat by omega), Bool.false_eq_true, if_false]
  repeat rw [if_neg (by omega)]
  rw [if_pos (by omega)]

theorem busWrite_eram (s : State) {a : Word} (v : Byte) (h : 0xA000 ≤ a.toNat) (h' : a.toNat ≤ 0xBFFF) :
    s.busWrite a v = s.writeEram a.toNat v := by
  simp only [State.busWrite]
  repeat rw [if_neg (by omega)]
  rw [if_pos (by omega)]

theorem busRead_wram (s : State) {a : Word} (h : 0xC000 ≤ a.toNat) (h' : a.toNat ≤ 0xDFFF) :
    s.busRead a = s.wram.read (a.toNat - 0xC000) := by
  simp only [State.busRead, bootCovers_high s (show 0x100 ≤ a.toNat by omega), Bool.false_eq_true, if_false]
  repeat rw [if_neg (by omega)]
  rw [if_pos (by omega)]

theorem busWrite_wram (s : State) {a : Word} (v : Byte) (h : 0xC000 ≤ a.toNat) (h' : a.toNat ≤ 0xDFFF) :
    s.busWrite a v = { s with wram := s.wram.write (a.toNat - 0xC000) v } := by
  simp only [State.busWrite]
  repeat rw [if_neg (by omega)]
  rw [if_pos (by omega)]

theorem busRead_echo (s : State) {a : Word} (h : 0xE000 ≤ a.toNat) (h' : a.toNat ≤ 0xFDFF) :
    s.busRead a = s.wram.read (a.toNat - 0xE000) := by
  simp only [State.busRead, bootCovers_high s (show 0x100 ≤ a.toNat by omega), Bool.false_eq_true, if_false]
  repeat rw [if_neg (by omega)]
  rw [if_pos (by omega)]

theorem busWrite_echo (s : State) {a : Word} (v : Byte) (h : 0xE000 ≤ a.toNat) (h' : a.toNat ≤ 0xFDFF) :
    s.busWrite a v = { s with wram := s.wram.write (a.toNat - 0xE000) v } := by
  simp only [State.busWrite]
  repeat rw [if_neg (by omega)]
  rw [if_pos (by omega)]

theorem busRead_oam (s : State) {a : Word} (h : 0xFE00 ≤ a.toNat) (h' : a.toNat ≤ 0xFE9F) :
    s.busRead a = s.oam.read (a.toNat - 0xFE00) := by
  simp only [State.busRead, bootCovers_high s (show 0x100 ≤ a.toNat by omega), Bool.false_eq_true, if_false]
  repeat rw [if_neg (by omega)]
  rw [if_pos (by omega)]

theorem busWrite_oam (s : State) {a : Word} (v : Byte) (h : 0xFE00 ≤ a.toNat) (h' : a.toNat ≤ 0xFE9F) :
    s.busWrite a v = { s with oam := s.oam.write (a.toNat - 0xFE00) v } := by
  simp only [State.busWrite]
  repeat rw [if_neg (by omega)]
  rw [if_pos (by omega)]

theorem busRead_hole (s : State) {a : Word} (h : 0xFEA0 ≤ a.toNat) (h' : a.toNat ≤ 0xFEFF) :
    s.busRead a = openBus := by
  simp only [State.busRead, bootCovers_high s (show 0x100 ≤ a.toNat by omega), Bool.false_eq_true, if_false]
  repeat rw [if_neg (by omega)]

theorem busWrite_hole (s : State) {a : Word} (v : Byte) (h : 0xFEA0 ≤ a.toNat) (h' : a.toNat ≤ 0xFEFF) :
    s.busWrite a v = s := by
  simp only [State.busWrite]
  repeat rw [if_neg (by omega)]

theorem busRead_joypad (s : State) {a : Word} (h : a.toNat = 0xFF00) :
    s.busRead a = s.readJoypad := by
  simp only [State.busRead, bootCovers_high s (show 0x100 ≤ a.toNat by omega), Bool.false_eq_true, if_false]
  repeat rw [if_neg (by omega)]
  rw [if_pos (by omega)]

theorem busWrite_joypad (s : State) {a : Word} (v : Byte) (h : a.toNat = 0xFF00) :
    s.busWrite a v = s.writeJoypad v := by
  simp only [State.busWrite]
  repeat rw [if_neg (by omega)]
  rw [if_pos (by omega)]

theorem busRead_timer (s : State) {a : Word} (h : 0xFF04 ≤ a.toNat) (h' : a.toNat ≤ 0xFF07) :
    s.busRead a = s.timer.readReg a.toNat := by
  simp only [State.busRead, bootCovers_high s (show 0x100 ≤ a.toNat by omega), Bool.false_eq_true, if_false]
  repeat rw [if_neg (by omega)]
  rw [if_pos (by omega)]

theorem busWrite_timer (s : State) {a : Word} (v : Byte) (h : 0xFF04 ≤ a.toNat) (h' : a.toNat ≤ 0xFF07) :
    s.busWrite a v = { s with timer := s.timer.writeReg a.toNat v } := by
  simp only [State.busWrite]
  repeat rw [if_neg (by omega)]
  rw [if_pos (by omega)]

theorem busRead_if (s : State) {a : Word} (h : a.toNat = 0xFF0F) :
    s.busRead a = s.readIf := by
  simp only [State.busRead, bootCovers_high s (show 0x100 ≤ a.toNat by omega), Bool.false_eq_true, if_false]
  repeat rw [if_neg (by omega)]
  rw [if_pos (by omega)]

theorem busWrite_if (s : State) {a : Word} (v : Byte) (h : a.toNat = 0xFF0F) :
    s.busWrite a v = s.writeIf v := by
  simp only [State.busWrite]
  repeat rw [if_neg (by omega)]
  rw [if_pos (by omega)]

theorem busRead_sound (s : State) {a : Word} (h : 0xFF10 ≤ a.toNat) (h' : a.toNat ≤ 0xFF3F) :
    s.busRead a = 0xFF := by
  simp only [State.busRead, bootCovers_high s (show 0x100 ≤ a.toNat by omega), Bool.false_eq_true, if_false]
  repeat rw [if_neg (by omega)]
  rw [if_pos (by omega)]

theorem busWrite_sound (s : State) {a : Word} (v : Byte) (h : 0xFF10 ≤ a.toNat) (h' : a.toNat ≤ 0xFF3F) :
    s.busWrite a v = s := by
  simp only [State.busWrite]
  repeat rw [if_neg (by omega)]
  rw [if_pos (by omega)]

theorem busRead_dma (s : State) {a : Word} (h : a.toNat = 0xFF46) :
    s.busRead a = s.dma.reg := by
  simp only [State.busRead, bootCovers_high s (show 0x100 ≤ a.toNat by omega), Bool.false_eq_true, if_false]
  repeat rw [if_neg (by omega)]
  rw [if_pos (by omega)]

theorem busWrite_dma (s : State) {a : Word} (v : Byte) (h : a.toNat = 0xFF46) :
    s.busWrite a v = s.startDma v := by
  simp only [State.busWrite]
  repeat rw [if_neg (by omega)]
  rw [if_pos (by omega)]

theorem busRead_lcdLow (s : State) {a : Word} (h : 0xFF40 ≤ a.toNat) (h' : a.toNat ≤ 0xFF45) :
    s.busRead a = s.lcd.readReg a.toNat := by
  simp only [State.busRead, bootCovers_high s (show 0x100 ≤ a.toNat by omega), Bool.false_eq_true, if_false]
  repeat rw [if_neg (by omega)]
  rw [if_pos (by omega)]

theorem busWrite_lcdLow (s : State) {a : Word} (v : Byte) (h : 0xFF40 ≤ a.toNat) (h' : a.toNat ≤ 0xFF45) :
    s.busWrite a v = s.writeLcdReg a.toNat v := by
  simp only [State.busWrite]
  repeat rw [if_neg (by omega)]
  rw [if_pos (by omega)]

theorem busRead_lcdHigh (s : State) {a : Word} (h : 0xFF47 ≤ a.toNat) (h' : a.toNat ≤ 0xFF4B) :
    s.busRead a = s.lcd.readReg a.toNat := by
  simp only [State.busRead, bootCovers_high s (show 0x100 ≤ a.toNat by omega), Bool.false_eq_true, if_false]
  repeat rw [if_neg (by omega)]
  rw [if_pos (by omega)]

theorem busWrite_lcdHigh (s : State) {a : Word} (v : Byte) (h : 0xFF47 ≤ a.toNat) (h' : a.toNat ≤ 0xFF4B) :
    s.busWrite a v = s.writeLcdReg a.toNat v := by
  simp only [State.busWrite]
  repeat rw [if_neg (by omega)]
  rw [if_pos (by omega)]

theorem busRead_bootOff (s : State) {a : Word} (h : a.toNat = 0xFF50) :
    s.busRead a = 0xFF := by
  simp only [State.busRead, bootCovers_high s (show 0x100 ≤ a.toNat by omega), Bool.false_eq_true, if_false]
  repeat rw [if_neg (by omega)]
  rw [if_pos (by omega)]

theorem busWrite_bootOff (s : State) {a : Word} (v : Byte) (h : a.toNat = 0xFF50) :
    s.busWrite a v = s.writeBoot v := by
  simp only [State.busWrite]
  repeat rw [if_neg (by omega)]
  rw [if_pos (by omega)]

theorem busRead_hram (s : State) {a : Word} (h : 0xFF80 ≤ a.toNat) (h' : a.toNat ≤ 0xFFFE) :
    s.busRead a = s.hram.read (a.toNat - 0xFF80) := by
  simp only [State.busRead, bootCovers_high s (show 0x100 ≤ a.toNat by omega), Bool.false_eq_true, if_false]
  repeat rw [if_neg (by omega)]
  rw [if_pos (by omega)]

theorem busWrite_hram (s : State) {a : Word} (v : Byte) (h : 0xFF80 ≤ a.toNat) (h' : a.toNat ≤ 0xFFFE) :
    s.busWrite a v = { s with hram := s.hram.write (a.toNat - 0xFF80) v } := by
  simp only [State.busWrite]
  repeat rw [if_neg (by omega)]
  rw [if_pos (by omega)]

theorem busRead_ie (s : State) {a : Word} (h : a.toNat = 0xFFFF) :
    s.busRead a = s.readIe := by
  simp only [State.busRead, bootCovers_high s (show 0x100 ≤ a.toNat by omega), Bool.false_eq_true, if_false]
  repeat rw [if_neg (by omega)]
  rw [if_pos (by omega)]

theorem busWrite_ie (s : State) {a : Word} (v : Byte) (h : a.toNat = 0xFFFF) :
    s.busWrite a v = s.writeIe v := by
  simp only [State.busWrite]
  repeat rw [if_neg (by omega)]
  rw [if_pos (by omega)]

/-- The addresses of the I/O page that no row claims (R70, R79). -/
def ioHole (a : Nat) : Prop :=
  (0xFF01 ≤ a ∧ a ≤ 0xFF03) ∨ (0xFF08 ≤ a ∧ a ≤ 0xFF0E) ∨ (0xFF4C ≤ a ∧ a ≤ 0xFF4F) ∨ (0xFF51 ≤ a ∧ a ≤ 0xFF7F)

theorem busRead_ioHole (s : State) {a : Word} (h : ioHole a.toNat) : s.busRead a = openBus := by
  unfold ioHole at h
  simp only [State.busRead, bootCovers_high s (show 0x100 ≤ a.toNat by omega), Bool.false_eq_true, if_false]
  repeat rw [if_neg (by omega)]

theorem busWrite_ioHole (s : State) {a : Word} (v : Byte) (h : ioHole a.toNat) : s.busWrite a v = s := by
  unfold ioHole at h
  simp only [State.busWrite]
  repeat rw [if_neg (by omega)]

/-- The CPU's accesses when no transfer blocks them (R62 row 0). -/
theorem memRead_of_not_blocked (s : State) {a : Word} (h : s.dmaBlocks a = false) : s.memRead a = s.busRead a := by
  simp [State.memRead, h]

theorem memWrite_of_not_blocked (s : State) {a : Word} (v : Byte) (h : s.dmaBlocks a = false) :
    s.memWrite a v = s.busWrite a v := by simp [State.memWrite, h]

/-- A blocked access reads 0xFF and stores nothing (R98). -/
theorem memRead_blocked (s : State) {a : Word} (h : s.dmaBlocks a = true) : s.memRead a = 0xFF := by simp [State.memRead, h]

theorem memWrite_blocked (s : State) {a : Word} (v : Byte) (h : s.dmaBlocks a = true) : s.memWrite a v = s := by
  simp [State.memWrite, h]

/-- Nothing is blocked while no transfer is active. -/
theorem dmaBlocks_of_idle (s : State) (a : Word) (h : s.dma.active = false) : s.dmaBlocks a = false := by
  simp [State.dmaBlocks, h]

/-- A property that every row's write keeps, every CPU write keeps. -/
theorem memWrite_keeps {P : State → Prop} {s : State} {a : Word} {v : Byte} (h : P s) (hb : P (s.busWrite a v)) :
    P (s.memWrite a v) := by
  unfold State.memWrite
  split
  · exact h
  · exact hb

/-- What a bus write does, row by row (R62): the one lemma to split on. -/
theorem busWrite_cases {P : State → Prop} (s : State) (a : Word) (v : Byte)
    (rom : a.toNat ≤ 0x7FFF → P (s.writeRom a.toNat v))
    (vram : 0x8000 ≤ a.toNat → a.toNat ≤ 0x9FFF → P { s with vram := s.vram.write (a.toNat - 0x8000) v })
    (eram : 0xA000 ≤ a.toNat → a.toNat ≤ 0xBFFF → P (s.writeEram a.toNat v))
    (wram : 0xC000 ≤ a.toNat → a.toNat ≤ 0xDFFF → P { s with wram := s.wram.write (a.toNat - 0xC000) v })
    (echo : 0xE000 ≤ a.toNat → a.toNat ≤ 0xFDFF → P { s with wram := s.wram.write (a.toNat - 0xE000) v })
    (oam : 0xFE00 ≤ a.toNat → a.toNat ≤ 0xFE9F → P { s with oam := s.oam.write (a.toNat - 0xFE00) v })
    (joypad : a.toNat = 0xFF00 → P (s.writeJoypad v))
    (timer : 0xFF04 ≤ a.toNat → a.toNat ≤ 0xFF07 → P { s with timer := s.timer.writeReg a.toNat v })
    (iflag : a.toNat = 0xFF0F → P (s.writeIf v))
    (dma : a.toNat = 0xFF46 → P (s.startDma v))
    (lcd : 0xFF40 ≤ a.toNat → a.toNat ≤ 0xFF4B → P (s.writeLcdReg a.toNat v))
    (boot : a.toNat = 0xFF50 → P (s.writeBoot v))
    (hram : 0xFF80 ≤ a.toNat → a.toNat ≤ 0xFFFE → P { s with hram := s.hram.write (a.toNat - 0xFF80) v })
    (ie : a.toNat = 0xFFFF → P (s.writeIe v))
    (none : P s) : P (s.busWrite a v) := by
  have ha : a.toNat < 0x10000 := a.isLt
  simp only [State.busWrite]
  by_cases h1 : a.toNat ≤ 0x7FFF
  · rw [if_pos h1]; exact rom h1
  rw [if_neg h1]
  by_cases h2 : a.toNat ≤ 0x9FFF
  · rw [if_pos h2]; exact vram (by omega) h2
  rw [if_neg h2]
  by_cases h3 : a.toNat ≤ 0xBFFF
  · rw [if_pos h3]; exact eram (by omega) h3
  rw [if_neg h3]
  by_cases h4 : a.toNat ≤ 0xDFFF
  · rw [if_pos h4]; exact wram (by omega) h4
  rw [if_neg h4]
  by_cases h5 : a.toNat ≤ 0xFDFF
  · rw [if_pos h5]; exact echo (by omega) h5
  rw [if_neg h5]
  by_cases h6 : a.toNat ≤ 0xFE9F
  · rw [if_pos h6]; exact oam (by omega) h6
  rw [if_neg h6]
  by_cases h7 : a.toNat = 0xFF00
  · rw [if_pos h7]; exact joypad h7
  rw [if_neg h7]
  by_cases h8 : 0xFF04 ≤ a.toNat ∧ a.toNat ≤ 0xFF07
  · rw [if_pos h8]; exact timer h8.1 h8.2
  rw [if_neg h8]
  by_cases h9 : a.toNat = 0xFF0F
  · rw [if_pos h9]; exact iflag h9
  rw [if_neg h9]
  by_cases h10 : 0xFF10 ≤ a.toNat ∧ a.toNat ≤ 0xFF3F
  · rw [if_pos h10]; exact none
  rw [if_neg h10]
  by_cases h11 : a.toNat = 0xFF46
  · rw [if_pos h11]; exact dma h11
  rw [if_neg h11]
  by_cases h12 : 0xFF40 ≤ a.toNat ∧ a.toNat ≤ 0xFF4B
  · rw [if_pos h12]; exact lcd h12.1 h12.2
  rw [if_neg h12]
  by_cases h13 : a.toNat = 0xFF50
  · rw [if_pos h13]; exact boot h13
  rw [if_neg h13]
  by_cases h14 : 0xFF80 ≤ a.toNat ∧ a.toNat ≤ 0xFFFE
  · rw [if_pos h14]; exact hram h14.1 h14.2
  rw [if_neg h14]
  by_cases h15 : a.toNat = 0xFFFF
  · rw [if_pos h15]; exact ie h15
  rw [if_neg h15]
  exact none

end Sys2Proof.Machine
end

