-- ==== Sys2Proof/Laws/Decode.lean ====
section
/-! SUPPORT. The decoder, case by case of the first byte's length: the lemmas to cite instead of unfolding it. -/
namespace Sys2Proof

theorem decode_cb (cbop : Byte) (rest : List Byte) : decodeFetched (0xCB :: cbop :: rest) = .ok (decodeCb cbop, rest) := rfl

theorem decode_one {op : Byte} (hcb : op ≠ 0xCB) (h : fetchedLength op = 1) (rest : List Byte) :
    decodeFetched (op :: rest) = .ok (decodeBase op 0 0, rest) := by
  show (if op = 0xCB then _ else _) = _
  rw [if_neg hcb, h]
  rfl

theorem decode_two {op : Byte} (hcb : op ≠ 0xCB) (h : fetchedLength op = 2) (n : Byte) (rest : List Byte) :
    decodeFetched (op :: n :: rest) = .ok (decodeBase op n 0, rest) := by
  show (if op = 0xCB then _ else _) = _
  rw [if_neg hcb, h]
  rfl

theorem decode_three {op : Byte} (hcb : op ≠ 0xCB) (h : fetchedLength op = 3) (lo hi : Byte) (rest : List Byte) :
    decodeFetched (op :: lo :: hi :: rest) = .ok (decodeBase op 0 (mkWord hi lo), rest) := by
  show (if op = 0xCB then _ else _) = _
  rw [if_neg hcb, h]
  rfl

/-- A length is 1, 2 or 3 (R110). -/
theorem fetchedLength_cases (op : Byte) : fetchedLength op = 1 ∨ fetchedLength op = 2 ∨ fetchedLength op = 3 := by
  revert op
  decide

/-! ## The ignored byte of STOP (R111) -/

@[simp] theorem ignoredBytes_skip1 : ignoredBytes .skip1 0x10 = 1 := rfl
@[simp] theorem ignoredBytes_nop1 : ignoredBytes .nop1 0x10 = 0 := rfl

theorem ignoredBytes_of_ne (mode : StopMode) {op : Byte} (h : op ≠ 0x10) : ignoredBytes mode op = 0 := if_neg h

/-- Under `SKIP1` STOP takes the byte after it, whatever it is. -/
theorem decode_stop_skip1 (x : Byte) (rest : List Byte) : decode .skip1 (0x10 :: x :: rest) = .ok (.stop, rest) := rfl

/-- Under `NOP1` STOP leaves the byte after it. -/
theorem decode_stop_nop1 (rest : List Byte) : decode .nop1 (0x10 :: rest) = .ok (.stop, rest) := rfl

/-- For every other first byte the mode has no part in decoding. -/
theorem decode_of_fetched (mode : StopMode) {bytes rest : List Byte} {i : Instr} (h : decodeFetched bytes = .ok (i, rest))
    (hop : bytes.headD 0 ≠ 0x10) : decode mode bytes = .ok (i, rest) := by
  simp only [decode, h, ignoredBytes_of_ne mode hop, Nat.not_lt_zero, if_false, List.drop_zero]

@[simp] theorem encode_stop_skip1 (x : Byte) : encode .skip1 x .stop = [0x10, x] := rfl
@[simp] theorem encode_stop_nop1 (x : Byte) : encode .nop1 x .stop = [0x10] := rfl

end Sys2Proof
end

