-- ==== Sys2Proof/Laws/Inflight.lean ====
section
/-! SUPPORT. No M-cycle's work and no peripheral looks at the work in flight: each commutes with changing it. What the machine of
one M-cycle per step and the machine of one instruction per step have in common rests on this. -/
namespace Sys2Proof.Machine

/-- The state with another piece of work in flight. -/
def State.withInflight (s : State) (x : Inflight) : State := { s with inflight := x }

/-- Two branches that commute with the work in flight. -/
theorem ite_withInflight {x : Inflight} {c : Prop} [Decidable c] {p q p' q' : State} (h1 : p = State.withInflight p' x) (h2 : q = State.withInflight q' x) : (if c then p else q) = State.withInflight (if c then p' else q') x := by split <;> assumption

theorem requestStat_withInflight (s : State) (x : Inflight) (c : Bool) : (s.withInflight x).requestStat c = State.withInflight (s.requestStat c) x := by cases c <;> rfl

theorem onEnter_withInflight (s : State) (x : Inflight) (m : Mode) : (s.withInflight x).onEnter m = State.withInflight (s.onEnter m) x := by
  cases m
  · exact requestStat_withInflight { s with lcd := renderLine s.lcd s.vram s.lcd.ly } x _
  · exact requestStat_withInflight (State.request { s with frames := s.frames ++ [s.lcd.frame] } 0) x _
  · exact requestStat_withInflight s x _
  · rfl

theorem advanceDot_withInflight (s : State) (x : Inflight) : (s.withInflight x).advanceDot = State.withInflight s.advanceDot x := by
  unfold State.advanceDot
  exact ite_withInflight (c := s.lcd.dot + 1 = dotsPerLine) (requestStat_withInflight { s with lcd := { s.lcd with dot := 0, ly := nextLine s.lcd.ly, coincidence := decide (nextLine s.lcd.ly = s.lcd.lyc) } } x _) rfl

theorem enterMode_withInflight (s : State) (x : Inflight) : (s.withInflight x).enterMode = State.withInflight s.enterMode x := by
  unfold State.enterMode
  exact ite_withInflight (c := modeOf s.lcd.ly s.lcd.dot = s.lcd.mode) rfl (onEnter_withInflight { s with lcd := { s.lcd with mode := modeOf s.lcd.ly s.lcd.dot } } x _)

theorem dotTick_withInflight (s : State) (x : Inflight) : (s.withInflight x).dotTick = State.withInflight s.dotTick x := by
  unfold State.dotTick
  refine ite_withInflight (c := s.lcd.enabled = true) ?_ rfl
  rw [advanceDot_withInflight, enterMode_withInflight]

theorem displayTick_withInflight (n : Nat) (s : State) (x : Inflight) : (s.withInflight x).displayTick n = State.withInflight (s.displayTick n) x := by
  induction n generalizing s with
  | zero => rfl
  | succ n ih => show (s.withInflight x).dotTick.displayTick n = _; rw [dotTick_withInflight, ih]; rfl

theorem timerTick1_eq (s : State) : s.timerTick1 = { (if s.timer.countdown.1 = true then s.request 2 else s) with timer := s.timer.countdown.2.count } := rfl

theorem timerTick1_withInflight (s : State) (x : Inflight) : (s.withInflight x).timerTick1 = State.withInflight s.timerTick1 x := by
  rw [timerTick1_eq, timerTick1_eq, show (s.withInflight x).timer = s.timer from rfl]
  cases s.timer.countdown.1 <;> rfl

theorem timerTick_withInflight (n : Nat) (s : State) (x : Inflight) : (s.withInflight x).timerTick n = State.withInflight (s.timerTick n) x := by
  induction n generalizing s with
  | zero => rfl
  | succ n ih => show (s.withInflight x).timerTick1.timerTick n = _; rw [timerTick1_withInflight, ih]; rfl

theorem dmaCopyByte_withInflight (s : State) (x : Inflight) : (s.withInflight x).dmaCopyByte = State.withInflight s.dmaCopyByte x := ite_withInflight (c := s.dma.index + 1 = oamSize) rfl rfl

theorem dmaLoop_withInflight (k : Nat) (s : State) (x : Inflight) : (s.withInflight x).dmaLoop k = State.withInflight (s.dmaLoop k) x := by
  induction k generalizing s with
  | zero => rfl
  | succ k ih => 
    refine ite_withInflight (c := 4 ≤ s.dma.acc ∧ s.dma.active = true) ?_ rfl
    rw [dmaCopyByte_withInflight, ih]

theorem dmaTick_withInflight (n : Nat) (s : State) (x : Inflight) : (s.withInflight x).dmaTick n = State.withInflight (s.dmaTick n) x :=
  ite_withInflight (c := s.dma.active = true) (dmaLoop_withInflight _ { s with dma := { s.dma with acc := s.dma.acc + n } } x) rfl

theorem tick_withInflight (s : State) (x : Inflight) : (s.withInflight x).tick = State.withInflight s.tick x := by
  unfold State.tick
  rw [displayTick_withInflight, timerTick_withInflight, dmaTick_withInflight]
  generalize ((s.displayTick 4).timerTick 4).dmaTick 4 = u
  rfl

theorem busWrite_withInflight (s : State) (x : Inflight) (a : Word) (v : Byte) : (s.withInflight x).busWrite a v = State.withInflight (s.busWrite a v) x := by
  unfold State.busWrite
  dsimp only
  refine ite_withInflight ?_ <| ite_withInflight rfl <| ite_withInflight ?_ <| ite_withInflight rfl <| ite_withInflight rfl <| ite_withInflight rfl <| ite_withInflight rfl <| ite_withInflight rfl <| ite_withInflight rfl <| ite_withInflight rfl <| ite_withInflight rfl <| ite_withInflight ?_ <| ite_withInflight ?_ <| ite_withInflight rfl <| ite_withInflight rfl rfl
  · unfold State.writeRom
    show (match s.params.cartKind with | .romOnly => _ | .mbc1 => _) = State.withInflight (match s.params.cartKind with | .romOnly => _ | .mbc1 => _) x
    cases s.params.cartKind <;> rfl
  · unfold State.writeEram
    show (match s.eramOffset a.toNat with | some _ => _ | none => _) = State.withInflight (match s.eramOffset a.toNat with | some _ => _ | none => _) x
    cases s.eramOffset a.toNat <;> rfl
  · generalize a.toNat = n
    unfold State.writeLcdReg
    split
    case h_2 => exact requestStat_withInflight { s with lcd := { s.lcd with statEnables := v.extractLsb' 3 4 } } x _
    case h_5 => exact requestStat_withInflight { s with lcd := { s.lcd with ly := 0, coincidence := decide (0 = s.lcd.lyc) } } x _
    case h_6 => exact requestStat_withInflight { s with lcd := { s.lcd with lyc := v, coincidence := decide (s.lcd.ly = v) } } x _
    all_goals rfl
  · exact ite_withInflight rfl rfl

theorem memWrite_withInflight (s : State) (x : Inflight) (a v) : (s.withInflight x).memWrite a v = State.withInflight (s.memWrite a v) x :=
  ite_withInflight (c := s.dmaBlocks a = true) rfl (busWrite_withInflight _ _ _ _)

theorem run_withInflight (m : MicroOp) (s : State) (x : Inflight) : m.run (s.withInflight x) = State.withInflight (m.run s) x := by
  cases m
  case store => exact memWrite_withInflight s x _ _
  case storeN => exact memWrite_withInflight s x _ _
  case storeHlInc => simp only [MicroOp.run]; rw [show (s.withInflight x).hl = s.hl from rfl, show (s.withInflight x).regs = s.regs from rfl, memWrite_withInflight]; rfl
  case storeHlDec => simp only [MicroOp.run]; rw [show (s.withInflight x).hl = s.hl from rfl, show (s.withInflight x).regs = s.regs from rfl, memWrite_withInflight]; rfl
  case storeSpLo => exact memWrite_withInflight s x _ _
  case storeSpHi => exact memWrite_withInflight s x _ _
  case pushHi => exact memWrite_withInflight { s with sp := _ } x _ _
  case pushLo => exact memWrite_withInflight { s with sp := _ } x _ _
  case pushPcHi => exact memWrite_withInflight { s with sp := _ } x _ _
  case pushPcLo => exact memWrite_withInflight { s with sp := _ } x _ _
  case pushPcLoJump nn => exact congrArg (fun t : State => { t with pc := nn }) (memWrite_withInflight { s with sp := _ } x _ _)
  case incHl => exact memWrite_withInflight (s.setFlags _) x _ _
  case decHl => exact memWrite_withInflight (s.setFlags _) x _ _
  case cbHl => exact memWrite_withInflight (s.setFlags _) x _ _
  case resHl => exact memWrite_withInflight s x _ _
  case setHl => exact memWrite_withInflight s x _ _
  case ldPair p _ => cases p <;> rfl
  case incPair p => cases p <;> rfl
  case decPair p => cases p <;> rfl
  case popPair p => cases p <;> rfl
  case ei => exact ite_withInflight (c := s.ime = false ∧ s.eiDelay = 0) rfl rfl
  case halt => exact ite_withInflight (c := s.ime = false ∧ s.pending ≠ 0) rfl rfl
  case stop => rfl
  case vector =>
    show (s.withInflight x).enterVector = State.withInflight s.enterVector x
    unfold State.enterVector
    rw [show (s.withInflight x).pending = s.pending from rfl]
    cases lowestBit s.pending <;> rfl
  all_goals rfl

end Sys2Proof.Machine
end

