-- ==== Sys2Proof/Laws/Schedule.lean ====
section
/-! SUPPORT. Running a schedule: what every M-cycle and every tick keep, the whole run keeps; and the one lemma about `exec`: it runs
the instruction's schedule, or refuses an undefined opcode. -/
namespace Sys2Proof.Machine

@[simp] theorem runSchedule_nil (s : State) : runSchedule [] s = s := rfl
@[simp] theorem runSchedule_one (m : MicroOp) (s : State) : runSchedule [m] s = m.run s := rfl

theorem runSchedule_cons (m n : MicroOp) (rest : List MicroOp) (s : State) :
    runSchedule (m :: n :: rest) s =
      if m.ends (m.run s) then m.run s else runSchedule (n :: rest) (m.run s).tick := rfl

/-- An M-cycle that is no condition test goes on to the next one, after a tick. -/
theorem runSchedule_step {m : MicroOp} (h : ∀ s, m.ends s = false) (n : MicroOp) (rest : List MicroOp) (s : State) :
    runSchedule (m :: n :: rest) s = runSchedule (n :: rest) (m.run s).tick := by
  rw [runSchedule_cons, h]; rfl

@[simp] theorem runSchedule_idle (n : MicroOp) (rest : List MicroOp) (s : State) :
    runSchedule (.idle :: n :: rest) s = runSchedule (n :: rest) s.tick := rfl

/-- A condition test goes on when the condition holds and ends the schedule when it does not (R281). -/
theorem runSchedule_test (cc : Cond) (n : MicroOp) (rest : List MicroOp) (s : State) :
    runSchedule (.test cc :: n :: rest) s =
      if condHolds cc s.flags then runSchedule (n :: rest) ((MicroOp.test cc).run s).tick else (MicroOp.test cc).run s := by
  rw [runSchedule_cons]
  show (if (!condHolds cc s.flags) = true then _ else _) = _
  cases condHolds cc s.flags <;> rfl

/-- What every M-cycle and every tick keep, the run of a schedule keeps. -/
theorem runSchedule_keeps {P : State → Prop} (ht : ∀ s, P s → P s.tick) :
    ∀ (ms : List MicroOp), (∀ m ∈ ms, ∀ s, P s → P (m.run s)) → ∀ s, P s → P (runSchedule ms s)
  | [], _, _, h => h
  | [m], hm, s, h => hm m (by simp) s h
  | m :: n :: rest, hm, s, h => by
    have hms : P (m.run s) := hm m (by simp) s h
    rw [runSchedule_cons]
    split
    · exact hms
    · exact runSchedule_keeps ht (n :: rest) (fun x hx => hm x (by simp [hx])) _ (ht _ hms)

/-- A field that no M-cycle of the schedule and no tick changes. -/
theorem runSchedule_field {α : Type} (f : State → α) (ht : ∀ s, f s.tick = f s) (ms : List MicroOp)
    (hm : ∀ m ∈ ms, ∀ s, f (m.run s) = f s) (s : State) : f (runSchedule ms s) = f s :=
  runSchedule_keeps (P := fun t => f t = f s) (fun t h => (ht t).trans h) ms (fun m hx t h => (hm m hx t).trans h) s rfl

/-- What `exec` does with an instruction other than the prefix byte alone: it runs the schedule to its end, or, for an undefined
opcode under `REFUSE`, answers the refusal (R135, R149). -/
theorem exec_cases (i : Instr) (hcb : i ≠ .cbPrefix) (s : State) :
    exec i s = .next (runSchedule (schedule i) s) ∨
      ∃ op, schedule i = [.diagnose op] ∧ s.params.illegalOpcodes = .refuse ∧ exec i s = .refused (.undefinedOpcode op) := by
  have undef (op : Byte) : undefinedOpcode op s = .next (runSchedule [.diagnose op] s) ∨
      ∃ o, [MicroOp.diagnose op] = [.diagnose o] ∧ s.params.illegalOpcodes = .refuse ∧
        undefinedOpcode op s = .refused (.undefinedOpcode o) := by
    unfold undefinedOpcode
    cases hp : s.params.illegalOpcodes
    · exact .inl rfl
    · exact .inr ⟨op, rfl, rfl, rfl⟩
  cases i <;> first | exact .inl rfl | exact undef _ | exact absurd rfl hcb

/-- If `exec` answers a next state, it is the end of the schedule's run. -/
theorem exec_next {i : Instr} (hcb : i ≠ .cbPrefix) {s t : State} (h : exec i s = .next t) :
    t = runSchedule (schedule i) s := by
  rcases exec_cases i hcb s with h' | ⟨op, -, -, h'⟩
  · rw [h'] at h; exact (Host.Outcome.next.inj h).symm
  · rw [h'] at h; cases h

/-- The prefix byte alone: M2 fetches the CB opcode, and its work follows (R140). -/
theorem exec_cbPrefix_eq (s : State) :
    exec .cbPrefix s = .next (runSchedule (cbSchedule (s.tick.memRead s.tick.pc)) (s.tick.fetchByte 0xCB).2) := rfl

end Sys2Proof.Machine
end

