-- ==== Sys2Proof/Laws/Keeps.lean ====
section
/-! SUPPORT. What each shared operation keeps of `State.CoreOk`: the memory arrays' canonical form, the timer's and the display
controller's standing relations, the DMA and bank controllers' ranges. -/
namespace Sys2Proof.Machine

/-! ## Timer (R342) -/

theorem timer_increment_sampled (t : Timer) : t.increment.sampled = t.sampled := by
  unfold Timer.increment
  (repeat' split) <;> rfl

/-- The edge check leaves the latch at the sampled bit and the reload delay in range. -/
theorem timer_edgeCheck_ok {t : Timer} (hd : t.reloadDelay ≤ 4) (h0 : 0 < t.reloadDelay → t.tima = 0) : t.edgeCheck.Ok := by
  unfold Timer.edgeCheck Timer.Ok
  dsimp only
  split
  · refine ⟨(timer_increment_sampled t).symm, ?_, ?_⟩ <;> unfold Timer.increment <;> (repeat' split) <;> simp_all
  · exact ⟨rfl, hd, h0⟩

theorem timer_countdown_delay {t : Timer} (h : t.Ok) :
    t.countdown.2.reloadDelay ≤ 4 ∧ (0 < t.countdown.2.reloadDelay → t.countdown.2.tima = 0) := by
  obtain ⟨-, h4, h0⟩ := h
  unfold Timer.countdown
  split
  · next hp =>
    dsimp only
    split
    · next hz => exact ⟨by simp only []; omega, fun hc => absurd hz (Nat.ne_of_gt hc)⟩
    · exact ⟨by simp only []; omega, fun _ => h0 hp⟩
  · exact ⟨h4, h0⟩

theorem timerTick1_timer (s : State) : s.timerTick1.timer = s.timer.countdown.2.count := rfl

theorem timerTick1_ok {s : State} (h : s.timer.Ok) : s.timerTick1.timer.Ok := by
  rw [timerTick1_timer]
  exact timer_edgeCheck_ok (timer_countdown_delay h).1 (timer_countdown_delay h).2

theorem timerTick_ok {s : State} (n : Nat) (h : s.timer.Ok) : (s.timerTick n).timer.Ok := by
  induction n generalizing s with
  | zero => exact h
  | succ n ih => exact ih (timerTick1_ok h)

theorem timer_writeReg_ok {t : Timer} (h : t.Ok) (a : Nat) (v : Byte) : (t.writeReg a v).Ok := by
  unfold Timer.writeReg
  split
  · exact timer_edgeCheck_ok h.2.1 h.2.2
  · split
    · next hd => exact ⟨h.1, h.2.1, fun hc => absurd hd (Nat.ne_of_gt hc)⟩
    · exact h
  · exact h
  · exact timer_edgeCheck_ok h.2.1 h.2.2
  · exact h

/-! ## Display controller (R351, R353, R358, R361) -/

theorem renderLine_frameOk {d : Lcd} (h : FrameOk d.frame) (vram : Memory) (ly : Byte) : FrameOk (renderLine d vram ly).frame := by
  obtain ⟨h1, h2⟩ := h
  refine ⟨by simp [renderLine, h1], fun line hl => ?_⟩
  rcases List.mem_or_eq_of_mem_set hl with hl | rfl
  · exact h2 line hl
  · simp

@[simp] theorem requestStat_lcd' (s : State) (c : Bool) : (s.requestStat c).lcd = s.lcd := requestStat_lcd s c

theorem updateCoincidence_lcd (s : State) (old : Bool) :
    (s.updateCoincidence old).lcd = { s.lcd with coincidence := decide (s.lcd.ly = s.lcd.lyc) } := by
  simp [State.updateCoincidence]

theorem nextLine_lt (ly : Byte) : (nextLine ly).toNat < 154 := by
  simp only [nextLine, linesPerFrame, BitVec.toNat_ofNat]
  omega

/-- The dot's advance keeps the ranges, and changes neither LCDC nor the frame buffer. -/
theorem advanceDot_range {s : State} (h : s.lcd.RangeOk) : s.advanceDot.lcd.RangeOk := by
  obtain ⟨h1, h2, h3, h4⟩ := h
  unfold State.advanceDot
  split
  · rw [updateCoincidence_lcd]
    exact ⟨nextLine_lt _, by simp, rfl, h4⟩
  · next hn => exact ⟨h1, by simp only [dotsPerLine] at hn ⊢; omega, h3, h4⟩

theorem onEnter_range {s : State} (h : s.lcd.RangeOk) (m : Mode) : (s.onEnter m).lcd.RangeOk := by
  cases m
  · simp only [State.onEnter, requestStat_lcd]
    exact ⟨h.1, h.2.1, h.2.2.1, renderLine_frameOk h.2.2.2 _ _⟩
  · simpa [State.onEnter] using h
  · simpa [State.onEnter] using h
  · exact h

theorem enterMode_range {s : State} (h : s.lcd.RangeOk) : s.enterMode.lcd.RangeOk := by
  simp only [State.enterMode]
  split
  · exact h
  · exact onEnter_range (s := { s with lcd := { s.lcd with mode := modeOf s.lcd.ly s.lcd.dot } }) h _

theorem dotTick_range {s : State} (h : s.lcd.RangeOk) : s.dotTick.lcd.RangeOk := by
  unfold State.dotTick
  split
  · exact enterMode_range (advanceDot_range h)
  · exact ⟨by simp [Lcd.offDot], by simp [Lcd.offDot], rfl, h.2.2.2⟩

theorem displayTick_range {s : State} (n : Nat) (h : s.lcd.RangeOk) : (s.displayTick n).lcd.RangeOk := by
  induction n generalizing s with
  | zero => exact h
  | succ n ih => exact ih (dotTick_range h)

@[simp] theorem advanceDot_lcdc (s : State) : s.advanceDot.lcd.lcdc = s.lcd.lcdc := by
  unfold State.advanceDot
  split
  · rw [updateCoincidence_lcd]
  · rfl

@[simp] theorem onEnter_lcdc (s : State) (m : Mode) : (s.onEnter m).lcd.lcdc = s.lcd.lcdc := by
  cases m <;> simp [State.onEnter, renderLine]

/-- What a mode's entry leaves of LY, the dot and the mode. -/
theorem onEnter_position (s : State) (m : Mode) :
    (s.onEnter m).lcd.ly = s.lcd.ly ∧ (s.onEnter m).lcd.dot = s.lcd.dot ∧ (s.onEnter m).lcd.mode = s.lcd.mode := by
  cases m <;> simp [State.onEnter, renderLine]

theorem enterMode_position (s : State) :
    s.enterMode.lcd.ly = s.lcd.ly ∧ s.enterMode.lcd.dot = s.lcd.dot ∧ s.enterMode.lcd.mode = modeOf s.lcd.ly s.lcd.dot := by
  simp only [State.enterMode]
  split
  · next h => exact ⟨rfl, rfl, h.symm⟩
  · exact onEnter_position _ _

@[simp] theorem enterMode_lcdc (s : State) : s.enterMode.lcd.lcdc = s.lcd.lcdc := by
  simp only [State.enterMode]
  split
  · rfl
  · simp

@[simp] theorem dotTick_lcdc (s : State) : s.dotTick.lcd.lcdc = s.lcd.lcdc := by
  unfold State.dotTick
  split
  · simp
  · rfl

@[simp] theorem displayTick_lcdc (n : Nat) (s : State) : (s.displayTick n).lcd.lcdc = s.lcd.lcdc := by
  induction n generalizing s with
  | zero => rfl
  | succ n ih => exact (ih s.dotTick).trans (dotTick_lcdc s)

/-- A dot leaves the mode that LY and the dot call for. -/
theorem dotTick_mode (s : State) : s.dotTick.lcd.ModeOk := by
  unfold Lcd.ModeOk
  have hen : s.dotTick.lcd.enabled = s.lcd.enabled := by simp [Lcd.enabled]
  rw [hen]
  unfold State.dotTick
  split
  · obtain ⟨h1, h2, h3⟩ := enterMode_position s.advanceDot
    rw [h1, h2, h3]
  · exact ⟨rfl, rfl, rfl⟩

theorem displayTick_mode (n : Nat) (s : State) : (s.displayTick (n + 1)).lcd.ModeOk := by
  induction n generalizing s with
  | zero => exact dotTick_mode s
  | succ n ih => exact ih s.dotTick

/-! ## Frames (R369) -/

theorem onEnter_frames {s : State} (h : s.lcd.RangeOk) (hf : s.FramesOk) (m : Mode) : (s.onEnter m).FramesOk := by
  cases m
  · simpa [State.onEnter, State.FramesOk] using hf
  · intro f hm
    have : f ∈ s.frames ++ [s.lcd.frame] := by simpa [State.onEnter] using hm
    rcases List.mem_append.mp this with hm | hm
    · exact hf f hm
    · rw [List.mem_singleton.mp hm]; exact h.2.2.2
  · simpa [State.onEnter, State.FramesOk] using hf
  · exact hf

theorem advanceDot_framesOk {s : State} (hf : s.FramesOk) : s.advanceDot.FramesOk := by
  unfold State.advanceDot
  split
  · simpa [State.FramesOk, State.updateCoincidence] using hf
  · exact hf

theorem enterMode_framesOk {s : State} (h : s.lcd.RangeOk) (hf : s.FramesOk) : s.enterMode.FramesOk := by
  simp only [State.enterMode]
  split
  · exact hf
  · exact onEnter_frames (s := { s with lcd := { s.lcd with mode := modeOf s.lcd.ly s.lcd.dot } }) h hf _

theorem dotTick_framesOk {s : State} (h : s.lcd.RangeOk) (hf : s.FramesOk) : s.dotTick.FramesOk := by
  unfold State.dotTick
  split
  · exact enterMode_framesOk (advanceDot_range h) (advanceDot_framesOk hf)
  · exact hf

theorem displayTick_framesOk {s : State} (n : Nat) (h : s.lcd.RangeOk) (hf : s.FramesOk) : (s.displayTick n).FramesOk := by
  induction n generalizing s with
  | zero => exact hf
  | succ n ih => exact ih (dotTick_range h) (dotTick_framesOk h hf)

/-! ## DMA (R96) -/

/-- What one copied byte does to the controller (R96). -/
theorem dmaCopyByte_dma (s : State) :
    s.dmaCopyByte.dma =
      if s.dma.index + 1 = 160 then { s.dma with index := s.dma.index + 1, active := false, acc := 0 }
      else { s.dma with index := s.dma.index + 1, acc := s.dma.acc - 4 } := by
  simp only [State.dmaCopyByte]
  by_cases h : s.dma.index + 1 = oamSize
  · rw [if_pos h]; exact (if_pos h).symm
  · rw [if_neg h]; exact (if_neg h).symm

theorem dmaCopyByte_ok {s : State} (hi : s.dma.index < 160) (ha : s.dma.acc < 8) (hs : loByte s.dma.source = 0) :
    s.dmaCopyByte.dma.Ok := by
  rw [dmaCopyByte_dma]
  split
  · exact ⟨by simp, by simp only []; omega, by simp, hs⟩
  · exact ⟨by simp only []; omega, by simp only []; omega, fun _ => by simp only []; omega, hs⟩

theorem dmaTick_ok {s : State} (h : s.dma.Ok) : (s.dmaTick 4).dma.Ok := by
  obtain ⟨hacc, hidx, hact, hsrc⟩ := h
  unfold State.dmaTick
  split
  · next ha =>
    have h1 : (s.dma.acc + 4) / 4 = 1 := by omega
    simp only [h1, State.dmaLoop]
    rw [if_pos ⟨by omega, ha⟩]
    exact dmaCopyByte_ok (s := { s with dma := { s.dma with acc := s.dma.acc + 4 } }) (hact ha) (by simp only []; omega) hsrc
  · exact ⟨hacc, hidx, hact, hsrc⟩

/-! ## Memory arrays -/

theorem dmaCopyByte_oam {s : State} (h : s.oam.wf ∧ Memory.within 160 s.oam) :
    s.dmaCopyByte.oam.wf ∧ Memory.within 160 s.dmaCopyByte.oam := by
  simp only [State.dmaCopyByte, apply_ite State.oam, ite_self]
  have key : ∀ v, (if s.dma.index < oamSize then s.oam.write s.dma.index v else s.oam).wf ∧
      Memory.within 160 (if s.dma.index < oamSize then s.oam.write s.dma.index v else s.oam) := by
    intro v
    split
    · next hi => exact ⟨Memory.wf_write h.1 _ _, Memory.within_write h.2 hi _⟩
    · exact h
  exact key _

theorem dmaTick_oam {s : State} (n : Nat) (h : s.oam.wf ∧ Memory.within 160 s.oam) :
    (s.dmaTick n).oam.wf ∧ Memory.within 160 (s.dmaTick n).oam := by
  have loop : ∀ k (s : State), (s.oam.wf ∧ Memory.within 160 s.oam) →
      ((s.dmaLoop k).oam.wf ∧ Memory.within 160 (s.dmaLoop k).oam) := by
    intro k
    induction k with
    | zero => exact fun _ h => h
    | succ k ih =>
      intro s h
      unfold State.dmaLoop
      split
      · exact ih _ (dmaCopyByte_oam h)
      · exact h
  unfold State.dmaTick
  split
  · exact loop _ _ h
  · exact h

/-! ## The whole tick -/

theorem tick_timer (s : State) : s.tick.timer = ((s.displayTick 4).timerTick 4).timer := by simp [State.tick]
theorem tick_lcd (s : State) : s.tick.lcd = (s.displayTick 4).lcd := by simp [State.tick]
theorem tick_frames (s : State) : s.tick.frames = (s.displayTick 4).frames := by simp [State.tick]
theorem tick_dma (s : State) : s.tick.dma = (((s.displayTick 4).timerTick 4).dmaTick 4).dma := by simp only [State.tick]
theorem tick_oam (s : State) : s.tick.oam = (((s.displayTick 4).timerTick 4).dmaTick 4).oam := by simp only [State.tick]

/-- The peripherals' part of a system step keeps everything. -/
theorem tick_coreOk {s : State} (h : s.CoreOk) : s.tick.CoreOk where
  memory := by
    obtain ⟨hv, hw, ho, hh, he⟩ := h.memory
    refine ⟨by simpa using hv, by simpa using hw, ?_, by simpa using hh, by simpa using he⟩
    rw [tick_oam]
    exact dmaTick_oam 4 (by simpa using ho)
  engine := by simpa [State.EngineOk] using h.engine
  timer := by
    rw [tick_timer]
    exact timerTick_ok 4 (by simpa using h.timer)
  range := by
    rw [tick_lcd]
    exact displayTick_range 4 h.range
  dma := by
    rw [tick_dma]
    exact dmaTick_ok (by simpa using h.dma)
  mbc1 := by simpa using h.mbc1
  frames := by
    unfold State.FramesOk
    rw [tick_frames]
    exact displayTick_framesOk 4 h.range h.frames

/-- After a tick the mode is the one of LY and the dot. -/
theorem tick_modeOk (s : State) : s.tick.lcd.ModeOk := by
  rw [tick_lcd]
  exact displayTick_mode 3 s

/-! ## Bus writes -/

theorem updateCoincidence_range {s : State} (h1 : s.lcd.ly.toNat < 154) (h2 : s.lcd.dot < 456) (h3 : FrameOk s.lcd.frame)
    (old : Bool) : (s.updateCoincidence old).lcd.RangeOk := by
  rw [updateCoincidence_lcd]
  exact ⟨h1, h2, rfl, h3⟩

theorem writeLcdReg_range {s : State} (h : s.lcd.RangeOk) (a : Nat) (v : Byte) : (s.writeLcdReg a v).lcd.RangeOk := by
  obtain ⟨h1, h2, h3, h4⟩ := h
  unfold State.writeLcdReg
  split
  case h_2 => simp only [State.writeStat, requestStat_lcd]; exact ⟨h1, h2, h3, h4⟩
  case h_5 => exact updateCoincidence_range (s := { s with lcd := { s.lcd with ly := 0 } }) (by simp) h2 h4 _
  case h_6 => exact updateCoincidence_range (s := { s with lcd := { s.lcd with lyc := v } }) h1 h2 h4 _
  all_goals exact ⟨h1, h2, h3, h4⟩

theorem mbc1_writeReg_ok {m : Mbc1} (h : m.Ok) (a : Nat) (v : Byte) : (m.writeReg a v).Ok := by
  unfold Mbc1.writeReg Mbc1.Ok
  split
  · exact h
  split
  · dsimp only
    split
    · decide
    · next hx => exact hx
  split <;> exact h

/-- An external RAM offset lies inside the RAM (R87, R94). -/
theorem eramOffset_lt {s : State} {a off : Nat} (h : s.eramOffset a = some off) : off < s.params.eramSize := by
  have key : ∀ (o n : Nat) (q : Prop) [Decidable q], (if o < n ∧ ¬ q then some o else none) = some off → off < n := by
    intro o n q _ h
    split at h
    · next hc => rw [← Option.some.inj h]; exact hc.1
    · cases h
  exact key _ _ _ h

/-- The display registers' writes leave every field but `lcd` and `iflag` alone. -/
theorem writeLcdReg_other (s : State) (a : Nat) (v : Byte) :
    s.writeLcdReg a v = { s with lcd := (s.writeLcdReg a v).lcd, iflag := (s.writeLcdReg a v).iflag } := by
  have stat : ∀ (s : State) (c : Bool), s.requestStat c = { s with iflag := (s.requestStat c).iflag } := by
    intro s c; cases c <;> rfl
  unfold State.writeLcdReg
  split
  case h_2 => simp only [State.writeStat]; rw [stat]
  case h_5 => simp only [State.updateCoincidence]; rw [stat]
  case h_6 => simp only [State.updateCoincidence]; rw [stat]
  all_goals rfl

/-- A bus write keeps everything (R61: every write is stored or dropped). -/
theorem busWrite_coreOk {s : State} (h : s.CoreOk) (a : Word) (v : Byte) : (s.busWrite a v).CoreOk := by
  have ⟨hmem, heng, htim, hran, hdma, hmbc, hfr⟩ := h
  obtain ⟨hv, hw, ho, hh, he⟩ := hmem
  refine busWrite_cases s a v ?_ ?_ ?_ ?_ ?_ ?_ ?_ ?_ ?_ ?_ ?_ ?_ ?_ ?_ h
  · intro _
    unfold State.writeRom
    split
    · exact h
    · exact ⟨⟨hv, hw, ho, hh, he⟩, heng, htim, hran, hdma, mbc1_writeReg_ok hmbc _ _, hfr⟩
  · intro h1 h2
    exact ⟨⟨⟨Memory.wf_write hv.1 _ _, Memory.within_write hv.2 (by omega) _⟩, hw, ho, hh, he⟩, heng, htim, hran, hdma, hmbc, hfr⟩
  · intro h1 h2
    unfold State.writeEram
    split
    · next off hoff =>
      exact ⟨⟨hv, hw, ho, hh, Memory.wf_write he.1 _ _, Memory.within_write he.2 (eramOffset_lt hoff) _⟩,
        heng, htim, hran, hdma, hmbc, hfr⟩
    · exact h
  · intro h1 h2
    exact ⟨⟨hv, ⟨Memory.wf_write hw.1 _ _, Memory.within_write hw.2 (by omega) _⟩, ho, hh, he⟩, heng, htim, hran, hdma, hmbc, hfr⟩
  · intro h1 h2
    exact ⟨⟨hv, ⟨Memory.wf_write hw.1 _ _, Memory.within_write hw.2 (by omega) _⟩, ho, hh, he⟩, heng, htim, hran, hdma, hmbc, hfr⟩
  · intro h1 h2
    exact ⟨⟨hv, hw, ⟨Memory.wf_write ho.1 _ _, Memory.within_write ho.2 (by omega) _⟩, hh, he⟩, heng, htim, hran, hdma, hmbc, hfr⟩
  · intro _; exact ⟨⟨hv, hw, ho, hh, he⟩, heng, htim, hran, hdma, hmbc, hfr⟩
  · intro _ _; exact ⟨⟨hv, hw, ho, hh, he⟩, heng, timer_writeReg_ok htim _ _, hran, hdma, hmbc, hfr⟩
  · intro _; exact ⟨⟨hv, hw, ho, hh, he⟩, heng, htim, hran, hdma, hmbc, hfr⟩
  · intro _
    exact ⟨⟨hv, hw, ho, hh, he⟩, heng, htim, hran,
      ⟨by simp [State.startDma], by simp [State.startDma], by simp [State.startDma], loByte_mkWord v 0⟩, hmbc, hfr⟩
  · intro _ _
    have hl := writeLcdReg_range hran a.toNat v
    rw [writeLcdReg_other]
    exact ⟨⟨hv, hw, ho, hh, he⟩, heng, htim, hl, hdma, hmbc, hfr⟩
  · intro _
    unfold State.writeBoot
    split
    · exact h
    · exact ⟨⟨hv, hw, ho, hh, he⟩, heng, htim, hran, hdma, hmbc, hfr⟩
  · intro h1 h2
    exact ⟨⟨hv, hw, ho, ⟨Memory.wf_write hh.1 _ _, Memory.within_write hh.2 (by omega) _⟩, he⟩, heng, htim, hran, hdma, hmbc, hfr⟩
  · intro _; exact ⟨⟨hv, hw, ho, hh, he⟩, heng, htim, hran, hdma, hmbc, hfr⟩

theorem memWrite_coreOk {s : State} (h : s.CoreOk) (a : Word) (v : Byte) : (s.memWrite a v).CoreOk :=
  memWrite_keeps h (busWrite_coreOk h a v)

theorem pushByte_coreOk {s : State} (h : s.CoreOk) (v : Byte) : (s.pushByte v).CoreOk :=
  memWrite_coreOk (s := { s with sp := s.sp - 1 }) ⟨h.memory, h.engine, h.timer, h.range, h.dma, h.mbc1, h.frames⟩ _ _

/-! ## The work of an M-cycle -/

/-- States that differ in no field `CoreOk` reads. -/
theorem State.CoreOk.congr {s t : State} (h : s.CoreOk)
    (hm : t.vram = s.vram ∧ t.wram = s.wram ∧ t.oam = s.oam ∧ t.hram = s.hram ∧ t.eram = s.eram ∧ t.params = s.params)
    (he : t.ime = s.ime ∧ t.eiDelay = s.eiDelay)
    (hd : t.timer = s.timer ∧ t.lcd = s.lcd ∧ t.dma = s.dma ∧ t.mbc1 = s.mbc1 ∧ t.frames = s.frames) : t.CoreOk := by
  obtain ⟨m1, m2, m3, m4, m5, m6⟩ := hm
  obtain ⟨e1, e2⟩ := he
  obtain ⟨d1, d2, d3, d4, d5⟩ := hd
  refine ⟨?_, ?_, d1 ▸ h.timer, d2 ▸ h.range, d3 ▸ h.dma, d4 ▸ h.mbc1, ?_⟩
  · unfold State.MemoryOk; rw [m1, m2, m3, m4, m5, m6]; exact h.memory
  · unfold State.EngineOk; rw [e1, e2]; exact h.engine
  · unfold State.FramesOk; rw [d5]; exact h.frames

/-- The EI delay keeps the engine's ranges (R134, R150). -/
theorem eiTick_coreOk {s : State} (h : s.CoreOk) : s.eiTick.CoreOk := by
  refine ⟨by simpa [State.MemoryOk] using h.memory, ?_, by simpa using h.timer, by simpa using h.range, by simpa using h.dma,
    by simpa using h.mbc1, by simpa [State.FramesOk] using h.frames⟩
  obtain ⟨h1, h2⟩ := h.engine
  unfold State.EngineOk State.eiTick
  dsimp only
  (repeat' split) <;> simp_all
  omega

/-- Every M-cycle's work keeps everything. -/
theorem run_coreOk (m : MicroOp) {s : State} (h : s.CoreOk) : (m.run s).CoreOk := by
  have reg : ∀ {t : State}, t.CoreOk → ∀ g f sp pc l hb ha dg, State.CoreOk
      { t with regs := g, flags := f, sp := sp, pc := pc, latches := l, haltBug := hb, halted := ha, diagnostics := dg } :=
    fun ht _ _ _ _ _ _ _ _ => ht.congr ⟨rfl, rfl, rfl, rfl, rfl, rfl⟩ ⟨rfl, rfl⟩ ⟨rfl, rfl, rfl, rfl, rfl⟩
  obtain ⟨e1, e2⟩ := h.engine
  cases m
  case idle => exact h
  case store => exact memWrite_coreOk h _ _
  case storeN => exact memWrite_coreOk h _ _
  case storeHlInc => exact reg (memWrite_coreOk h _ _) _ _ _ _ _ _ _ _
  case storeHlDec => exact reg (memWrite_coreOk h _ _) _ _ _ _ _ _ _ _
  case ldPair p _ => cases p <;> exact reg h _ _ _ _ _ _ _ _
  case storeSpLo => exact memWrite_coreOk h _ _
  case storeSpHi => exact memWrite_coreOk h _ _
  case pushHi => exact pushByte_coreOk h _
  case pushLo => exact pushByte_coreOk h _
  case popPair p => cases p <;> exact reg h _ _ _ _ _ _ _ _
  case incHl => exact memWrite_coreOk (reg h _ _ _ _ _ _ _ _) _ _
  case decHl => exact memWrite_coreOk (reg h _ _ _ _ _ _ _ _) _ _
  case incPair p => cases p <;> exact reg h _ _ _ _ _ _ _ _
  case decPair p => cases p <;> exact reg h _ _ _ _ _ _ _ _
  case cbHl => exact memWrite_coreOk (reg h _ _ _ _ _ _ _ _) _ _
  case resHl => exact memWrite_coreOk h _ _
  case setHl => exact memWrite_coreOk h _ _
  case pushPcHi => exact pushByte_coreOk h _
  case pushPcLo => exact pushByte_coreOk h _
  case pushPcLoJump => exact reg (pushByte_coreOk h _) _ _ _ _ _ _ _ _
  case retiJump => exact ⟨h.memory, ⟨by simp [MicroOp.run, State.returnFromInterrupt], by simp [MicroOp.run, State.returnFromInterrupt]⟩,
    h.timer, h.range, h.dma, h.mbc1, h.frames⟩
  case di => exact ⟨h.memory, ⟨by simp [MicroOp.run], by simp [MicroOp.run]⟩, h.timer, h.range, h.dma, h.mbc1, h.frames⟩
  case ei =>
    show s.armEi.CoreOk
    unfold State.armEi
    split
    · next hc => exact ⟨h.memory, ⟨Nat.le_refl 2, fun _ => hc.1⟩, h.timer, h.range, h.dma, h.mbc1, h.frames⟩
    · exact h
  case halt =>
    show s.enterHalt.CoreOk
    unfold State.enterHalt
    split <;> exact reg h _ _ _ _ _ _ _ _
  case stop =>
    show s.stopStep.CoreOk
    exact reg h _ _ _ _ _ _ _ _
  case vector =>
    show s.enterVector.CoreOk
    refine ⟨by simpa [State.MemoryOk] using h.memory, ⟨by simpa using e1, fun _ => by simp⟩, by simpa using h.timer,
      by simpa using h.range, by simpa using h.dma, by simpa using h.mbc1, by simpa [State.FramesOk] using h.frames⟩
  all_goals exact reg h _ _ _ _ _ _ _ _

/-- Running a schedule keeps everything. -/
theorem runSchedule_coreOk (ms : List MicroOp) {s : State} (h : s.CoreOk) : (runSchedule ms s).CoreOk :=
  runSchedule_keeps (P := State.CoreOk) (fun _ h => tick_coreOk h) ms (fun m _ _ h => run_coreOk m h) s h

end Sys2Proof.Machine
end

