-- ==== Sys2Proof/Laws/Run.lean ====
section
/-! SUPPORT. What one M-cycle's work changes, said once per kind of state: a classifier of the M-cycles that may write it, and the lemma
that every other leaves it. -/
namespace Sys2Proof

/-- The registers of a pair. -/
def Pair.regs (p : Pair) : List R8 :=
  match p with
  | .bc => [.b, .c]
  | .de => [.d, .e]
  | .hl => [.h, .l]
  | .sp => []

/-- The 8-bit registers of a pair that is pushed and popped; F is no `R8`. -/
def StackPair.regs (p : StackPair) : List R8 :=
  match p with
  | .bc => [.b, .c]
  | .de => [.d, .e]
  | .hl => [.h, .l]
  | .af => [.a]

namespace Machine

/-! ## Flags -/

/-- The M-cycles that write flags. -/
def MicroOp.writesFlags (m : MicroOp) : Bool :=
  match m with
  | .popPair .af | .ldHlSp _ | .aluR _ _ | .aluN _ _ | .aluHl _ | .incR _ | .decR _ | .incHl | .decHl | .daa | .cpl | .scf | .ccf
  | .addHl _ | .addSp _ | .accRot _ | .cbR _ _ | .cbHl _ | .bitR _ _ | .bitHl _ => true
  | _ => false

theorem run_flags {m : MicroOp} (h : m.writesFlags = false) (s : State) : (m.run s).flags = s.flags := by
  cases m
  case popPair p => cases p <;> first | (cases h; done) | exact popHi_flags s
  all_goals first | (cases h; done) | rfl | simp [MicroOp.run]

/-! ## Registers -/

/-- The 8-bit registers an M-cycle may write. -/
def MicroOp.writes (m : MicroOp) : List R8 :=
  match m with
  | .ldRR dst _ => [dst]
  | .ldRN dst _ => [dst]
  | .load dst _ => [dst]
  | .loadHlInc | .loadHlDec => [.a, .h, .l]
  | .storeHlInc | .storeHlDec => [.h, .l]
  | .ldPair p _ => p.regs
  | .popPair p => p.regs
  | .ldHlSp _ => [.h, .l]
  | .aluR op _ => if op = .cp then [] else [.a]
  | .aluN op _ => if op = .cp then [] else [.a]
  | .aluHl op => if op = .cp then [] else [.a]
  | .incR r => [r]
  | .decR r => [r]
  | .daa | .cpl => [.a]
  | .addHl _ => [.h, .l]
  | .incPair p => p.regs
  | .decPair p => p.regs
  | .accRot _ => [.a]
  | .cbR _ r => [r]
  | .resR _ r => [r]
  | .setR _ r => [r]
  | _ => []

theorem setReg_reg_of_ne {r q : R8} (h : q ≠ r) (s : State) (v : Byte) : (s.setReg r v).reg q = s.reg q := by
  rw [setReg_reg, if_neg (fun e => h e.symm)]

theorem setResult_reg_of_ne {r q : R8} (h : q ≠ r) (s : State) (v : Byte × Flags) : (s.setResult r v).reg q = s.reg q := by
  simp [State.setResult, setReg_reg_of_ne h]

/-- The ALU leaves A under CP. -/
theorem alu_cp (f : Flags) (a v : Byte) : (alu .cp f a v).1 = a := rfl

theorem setResult_alu_reg (s : State) (op : AluOp) (v : Byte) (f : Flags) {q : R8}
    (h : q ∉ (if op = .cp then [] else [R8.a])) : (s.setResult .a (alu op f s.regs.a v)).reg q = s.reg q := by
  by_cases ho : op = .cp
  · subst ho
    simp only [State.setResult, setFlags_reg, setReg_reg, alu_cp]
    split
    · next hq => subst hq; rfl
    · rfl
  · rw [if_neg ho, List.mem_singleton] at h
    exact setResult_reg_of_ne h s _

theorem setPair_reg_of_not_mem {p : Pair} {q : R8} (h : q ∉ p.regs) (s : State) (v : Word) : (s.setPair p v).reg q = s.reg q := by
  cases p <;> cases q <;> first | rfl | exact absurd (by decide) h

theorem setStackPair_reg_of_not_mem {p : StackPair} {q : R8} (h : q ∉ p.regs) (s : State) (v : Word) :
    (s.setStackPair p v).reg q = s.reg q := by
  cases p <;> cases q <;> first | rfl | exact absurd (by decide) h

theorem reg_of_regs_eq {s t : State} (h : t.regs = s.regs) (q : R8) : t.reg q = s.reg q := by
  cases q <;> simp [State.reg, h]

theorem setHl_reg_of_not_mem {q : R8} (h : q ∉ [R8.h, R8.l]) (s : State) (v : Word) : (s.setHl v).reg q = s.reg q := by
  cases q <;> first | rfl | exact absurd (by decide) h

theorem run_reg {m : MicroOp} {q : R8} (h : q ∉ m.writes) (s : State) : (m.run s).reg q = s.reg q := by
  cases m
  case ldRR => exact setReg_reg_of_ne (by simpa [MicroOp.writes] using h) s _
  case ldRN => exact setReg_reg_of_ne (by simpa [MicroOp.writes] using h) s _
  case load => exact setReg_reg_of_ne (by simpa [MicroOp.writes] using h) s _
  case ldPair => exact setPair_reg_of_not_mem h s _
  case incPair => exact setPair_reg_of_not_mem h s _
  case decPair => exact setPair_reg_of_not_mem h s _
  case popPair => exact (setStackPair_reg_of_not_mem h s.popHi _).trans (reg_of_regs_eq (popHi_regs s) q)
  case ldHlSp => exact (setFlags_reg _ _ _).trans (setHl_reg_of_not_mem h s _)
  case addHl => exact (setFlags_reg _ _ _).trans (setHl_reg_of_not_mem h s _)
  case loadHlInc =>
    simp only [MicroOp.writes, List.mem_cons, not_or] at h
    exact (setHl_reg_of_not_mem (by simp [h]) _ _).trans (setReg_reg_of_ne h.1 s _)
  case loadHlDec =>
    simp only [MicroOp.writes, List.mem_cons, not_or] at h
    exact (setHl_reg_of_not_mem (by simp [h]) _ _).trans (setReg_reg_of_ne h.1 s _)
  case storeHlInc => exact (setHl_reg_of_not_mem h _ _).trans (memWrite_reg _ _ _ _)
  case storeHlDec => exact (setHl_reg_of_not_mem h _ _).trans (memWrite_reg _ _ _ _)
  case aluR => exact setResult_alu_reg s _ _ _ h
  case aluN => exact setResult_alu_reg s _ _ _ h
  case aluHl => exact (setResult_alu_reg s.readT _ _ _ h).trans (reg_of_regs_eq (readT_regs s) q)
  case incR => exact setResult_reg_of_ne (by simpa [MicroOp.writes] using h) s _
  case decR => exact setResult_reg_of_ne (by simpa [MicroOp.writes] using h) s _
  case daa => exact setResult_reg_of_ne (by simpa [MicroOp.writes] using h) s _
  case cpl => exact setResult_reg_of_ne (by simpa [MicroOp.writes] using h) s _
  case accRot => exact setResult_reg_of_ne (by simpa [MicroOp.writes] using h) s _
  case cbR => exact setResult_reg_of_ne (by simpa [MicroOp.writes] using h) s _
  case resR => exact setReg_reg_of_ne (by simpa [MicroOp.writes] using h) s _
  case setR => exact setReg_reg_of_ne (by simpa [MicroOp.writes] using h) s _
  all_goals exact reg_of_regs_eq (by first | rfl | simp [MicroOp.run, State.writeHl]) q

/-! ## SP, PC and the engine -/

/-- The M-cycles that write SP. -/
def MicroOp.writesSp (m : MicroOp) : Bool :=
  match m with
  | .ldPair .sp _ | .incPair .sp | .decPair .sp | .ldSpHl | .addSp _ | .pushHi _ | .pushLo _ | .popLo | .popHi | .popPair _
  | .pushPcHi | .pushPcLo | .pushPcLoJump _ => true
  | _ => false

theorem run_sp {m : MicroOp} (h : m.writesSp = false) (s : State) : (m.run s).sp = s.sp := by
  cases m
  case ldPair p _ => cases p <;> first | (cases h; done) | rfl
  case incPair p => cases p <;> first | (cases h; done) | rfl
  case decPair p => cases p <;> first | (cases h; done) | rfl
  all_goals first | (cases h; done) | rfl | simp [MicroOp.run, State.writeHl]

/-- The M-cycles that write PC. -/
def MicroOp.writesPc (m : MicroOp) : Bool :=
  match m with
  | .jump _ | .jumpHl | .jumpRel _ | .pushPcLoJump _ | .retJump | .retiJump | .stop | .vector => true
  | _ => false

theorem run_pc {m : MicroOp} (h : m.writesPc = false) (s : State) : (m.run s).pc = s.pc := by
  cases m <;> first | (cases h; done) | rfl | simp [MicroOp.run, State.writeHl]

/-- The M-cycles that write IME or the EI delay. -/
def MicroOp.writesIme (m : MicroOp) : Bool :=
  match m with
  | .di | .ei | .retiJump | .vector => true
  | _ => false

theorem run_ime {m : MicroOp} (h : m.writesIme = false) (s : State) : (m.run s).ime = s.ime ∧ (m.run s).eiDelay = s.eiDelay := by
  cases m <;> first | (cases h; done) | exact ⟨rfl, rfl⟩ | constructor <;> simp [MicroOp.run, State.writeHl]

/-- The M-cycles that write `halted` or the HALT-bug flag. -/
def MicroOp.writesHalt (m : MicroOp) : Bool :=
  match m with
  | .halt | .vector => true
  | _ => false

theorem run_halt {m : MicroOp} (h : m.writesHalt = false) (s : State) :
    (m.run s).halted = s.halted ∧ (m.run s).haltBug = s.haltBug := by
  cases m <;> first | (cases h; done) | exact ⟨rfl, rfl⟩ | constructor <;> simp [MicroOp.run, State.writeHl]

theorem run_diagnostics {m : MicroOp} (h : ∀ op, m ≠ .diagnose op) (s : State) : (m.run s).diagnostics = s.diagnostics := by
  cases m <;> first | exact absurd rfl (h _) | rfl | simp [MicroOp.run, State.writeHl]

@[simp] theorem run_inflight (m : MicroOp) (s : State) : (m.run s).inflight = s.inflight := by
  cases m <;> first | rfl | simp [MicroOp.run, State.writeHl]

@[simp] theorem run_params (m : MicroOp) (s : State) : (m.run s).params = s.params := by
  cases m <;> first | rfl | simp [MicroOp.run, State.writeHl]

@[simp] theorem run_clock (m : MicroOp) (s : State) : (m.run s).clock = s.clock := by
  cases m <;> first | rfl | simp [MicroOp.run, State.writeHl]

@[simp] theorem run_frames (m : MicroOp) (s : State) : (m.run s).frames = s.frames := by
  cases m <;> first | rfl | simp [MicroOp.run, State.writeHl]

/-! ## Stores -/

/-- The address an M-cycle stores to, in the state it runs in. -/
def MicroOp.storesTo (m : MicroOp) (s : State) : Option Word :=
  match m with
  | .store a _ => some (s.address a)
  | .storeN a _ => some (s.address a)
  | .storeHlInc | .storeHlDec | .incHl | .decHl | .cbHl _ | .resHl _ | .setHl _ => some s.hl
  | .storeSpLo nn => some nn
  | .storeSpHi nn => some (nn + 1)
  | .pushHi _ | .pushLo _ | .pushPcHi | .pushPcLo | .pushPcLoJump _ => some (s.sp - 1)
  | _ => none

/-- What an M-cycle's work leaves of a kind of state that only a bus write reaches: everything, if it stores nothing, and what
the one bus write leaves, if it stores. -/
theorem run_memory {α : Type} (f : State → α)
    (hf : ∀ (s : State) g fl sp pc im ei hb ha la dg,
      f { s with regs := g, flags := fl, sp := sp, pc := pc, ime := im, eiDelay := ei, haltBug := hb, halted := ha, latches := la,
                 diagnostics := dg } = f s)
    (m : MicroOp) (hv : m ≠ .vector) (s : State)
    (hw : ∀ a, m.storesTo s = some a → ∀ (u : State) v, f u = f s → u.dma.active = s.dma.active → u.mbc1 = s.mbc1 →
      u.params = s.params → f (u.memWrite a v) = f s) : f (m.run s) = f s := by
  cases m
  case vector => exact absurd rfl hv
  case idle => rfl
  case ldPair p _ => cases p <;> exact hf s _ _ _ _ _ _ _ _ _ _
  case incPair p => cases p <;> exact hf s _ _ _ _ _ _ _ _ _ _
  case decPair p => cases p <;> exact hf s _ _ _ _ _ _ _ _ _ _
  case popPair p => cases p <;> exact hf s _ _ _ _ _ _ _ _ _ _
  case store => exact hw _ rfl s _ rfl rfl rfl rfl
  case storeN => exact hw _ rfl s _ rfl rfl rfl rfl
  case storeHlInc => exact (hf _ _ _ _ _ _ _ _ _ _ _).trans (hw _ rfl s _ rfl rfl rfl rfl)
  case storeHlDec => exact (hf _ _ _ _ _ _ _ _ _ _ _).trans (hw _ rfl s _ rfl rfl rfl rfl)
  case storeSpLo => exact hw _ rfl s _ rfl rfl rfl rfl
  case storeSpHi => exact hw _ rfl s _ rfl rfl rfl rfl
  case pushHi => exact hw _ rfl { s with sp := s.sp - 1 } _ (hf s _ _ _ _ _ _ _ _ _ _) rfl rfl rfl
  case pushLo => exact hw _ rfl { s with sp := s.sp - 1 } _ (hf s _ _ _ _ _ _ _ _ _ _) rfl rfl rfl
  case pushPcHi => exact hw _ rfl { s with sp := s.sp - 1 } _ (hf s _ _ _ _ _ _ _ _ _ _) rfl rfl rfl
  case pushPcLo => exact hw _ rfl { s with sp := s.sp - 1 } _ (hf s _ _ _ _ _ _ _ _ _ _) rfl rfl rfl
  case pushPcLoJump nn =>
    exact (hf _ _ _ _ _ _ _ _ _ _ _).trans (hw _ rfl { s with sp := s.sp - 1 } _ (hf s _ _ _ _ _ _ _ _ _ _) rfl rfl rfl)
  case incHl => exact hw _ rfl (s.setFlags _) _ (hf s _ _ _ _ _ _ _ _ _ _) rfl rfl rfl
  case decHl => exact hw _ rfl (s.setFlags _) _ (hf s _ _ _ _ _ _ _ _ _ _) rfl rfl rfl
  case cbHl => exact hw _ rfl (s.setFlags _) _ (hf s _ _ _ _ _ _ _ _ _ _) rfl rfl rfl
  case resHl => exact hw _ rfl s _ rfl rfl rfl rfl
  case setHl => exact hw _ rfl s _ rfl rfl rfl rfl
  case ei =>
    show f s.armEi = f s
    unfold State.armEi
    split
    · exact hf s _ _ _ _ _ _ _ _ _ _
    · rfl
  case halt =>
    show f s.enterHalt = f s
    unfold State.enterHalt
    split <;> exact hf s _ _ _ _ _ _ _ _ _ _
  case stop =>
    show f s.stopStep = f s
    exact hf s _ _ _ _ _ _ _ _ _ _
  all_goals exact hf s _ _ _ _ _ _ _ _ _ _

end Machine

end Sys2Proof
end

