-- ==== Sys2Proof/Laws/Step.lean ====
section
/-! SUPPORT. The step at an instruction boundary, branch by branch, and the one inversion of it: what a step that answers a next
state can have done. -/
namespace Sys2Proof.Machine

theorem step_boundary {s : State} (ha : s.params.accepted = true) (hi : s.inflight = .none) : step s = boundaryStep s := by
  unfold step engineStep
  rw [if_pos ha, hi]

/-- An interrupt is serviced (R132). -/
theorem step_service {s : State} (ha : s.params.accepted = true) (hi : s.inflight = .none) (hd : s.ime = true)
    (hp : s.pending ≠ 0) : step s = .next s.takeInterrupt.tick := by
  rw [step_boundary ha hi]
  unfold boundaryStep
  rw [if_pos ⟨hd, hp⟩]

/-- A halted engine with nothing pending idles (R133). -/
theorem step_idle {s : State} (ha : s.params.accepted = true) (hi : s.inflight = .none) (hh : s.halted = true)
    (hp : s.pending = 0) : step s = .next s.tick := by
  rw [step_boundary ha hi]
  unfold boundaryStep
  rw [if_neg (fun h => h.2 hp), if_pos ⟨hh, hp⟩]

/-- Otherwise the next instruction is fetched and executed (R131, R133). -/
theorem step_execute {s : State} (ha : s.params.accepted = true) (hi : s.inflight = .none) (hd : ¬ (s.ime = true ∧ s.pending ≠ 0))
    (hh : ¬ (s.halted = true ∧ s.pending = 0)) : step s = execute (State.fetchInstr { s with halted := false }) := by
  rw [step_boundary ha hi]
  unfold boundaryStep
  rw [if_neg hd, if_neg hh]

/-- A refusal of the parameters (R93). -/
theorem step_not_accepted {s : State} (ha : s.params.accepted = false) : step s = .refused (.romSize s.params.romSize) := by
  unfold step engineStep
  rw [if_neg (by simp [ha])]

theorem execute_ok {bytes rest : List Byte} {i : Instr} (s : State) (h : decodeFetched bytes = .ok (i, rest)) :
    execute (bytes, s) = onNext (exec i s) State.complete := by
  unfold execute
  rw [h]

/-- The fetches from M2 on of a two-byte instruction. -/
theorem fetchSecond_two {op : Byte} (h : fetchedLength op = 2) (s : State) :
    s.fetchSecond op = ([op, s.memRead s.pc], (s.fetchByte op).2) := by
  unfold State.fetchSecond
  dsimp only
  rw [if_pos h]
  rfl

/-- The fetches from M2 on of a three-byte instruction. -/
theorem fetchSecond_three {op : Byte} (h : fetchedLength op = 3) (s : State) :
    s.fetchSecond op = (((s.fetchByte op).2.latchLo (s.memRead s.pc)).tick).fetchThird op (s.memRead s.pc) := by
  unfold State.fetchSecond
  dsimp only
  rw [if_neg (by omega)]
  rfl

theorem fetchInstr_one {s : State} (h : fetchedLength (s.memRead s.pc) = 1) :
    s.fetchInstr = ([s.memRead s.pc], s.fetchOpcode.2) := by
  show (if fetchedLength (s.memRead s.pc) = 1 then _ else _) = _
  rw [if_pos h]
  rfl

theorem fetchInstr_more {s : State} (h : fetchedLength (s.memRead s.pc) ≠ 1) :
    s.fetchInstr = s.fetchOpcode.2.tick.fetchSecond (s.memRead s.pc) := by
  show (if fetchedLength (s.memRead s.pc) = 1 then _ else _) = _
  rw [if_neg h]
  rfl

/-- The bytes of a two-byte or three-byte instruction decode. -/
theorem fetchSecond_decodes {op : Byte} (h1 : fetchedLength op ≠ 1) (t : State) :
    ∃ i, decodeFetched (t.fetchSecond op).1 = .ok (i, []) := by
  rcases fetchedLength_cases op with h | h | h
  · exact absurd h h1
  · rw [fetchSecond_two h]
    by_cases hcb : op = 0xCB
    · subst hcb; exact ⟨_, decode_cb _ _⟩
    · exact ⟨_, decode_two hcb h _ _⟩
  · have hcb : op ≠ 0xCB := by rintro rfl; exact absurd h (by decide)
    rw [fetchSecond_three h]
    exact ⟨_, decode_three hcb h _ _ _⟩

/-- The fetched bytes decode, to a whole instruction with no byte left over. -/
theorem fetched_decodes (s : State) : ∃ i, decodeFetched s.fetchInstr.1 = .ok (i, []) := by
  by_cases h : fetchedLength (s.memRead s.pc) = 1
  · have hcb : s.memRead s.pc ≠ 0xCB := by intro hc; rw [hc] at h; exact absurd h (by decide)
    rw [fetchInstr_one h]
    exact ⟨_, decode_one hcb h _⟩
  · rw [fetchInstr_more h]
    exact fetchSecond_decodes h _

/-- A step's end: the next state of an instruction, completed. -/
theorem onNext_next {r : Result} {f : State → State} {t : State} (h : onNext r f = .next t) : ∃ u, r = .next u ∧ t = f u := by
  cases r with
  | next u => exact ⟨u, rfl, (Host.Outcome.next.inj h).symm⟩
  | fault e => cases h
  | refused e => cases h

theorem execute_next {f : List Byte × State} {t : State} (h : execute f = .next t) :
    ∃ i rest u, decodeFetched f.1 = .ok (i, rest) ∧ exec i f.2 = .next u ∧ t = u.complete := by
  unfold execute at h
  split at h
  · next i rest hd =>
    obtain ⟨u, hu, ht⟩ := onNext_next h
    exact ⟨i, rest, u, hd, hu, ht⟩
  · cases h

/-- What a step can have done: a service, an idle M-cycle, an instruction from its fetch or from where it stood in flight, or the rest of a
schedule in flight. -/
theorem step_cases {s t : State} (h : step s = .next t) :
    s.params.accepted = true ∧
    ((s.inflight = .none ∧ s.ime = true ∧ s.pending ≠ 0 ∧ t = s.takeInterrupt.tick) ∨
     (s.inflight = .none ∧ s.halted = true ∧ s.pending = 0 ∧ t = s.tick) ∨
     (s.inflight = .none ∧ ¬ (s.ime = true ∧ s.pending ≠ 0) ∧ ¬ (s.halted = true ∧ s.pending = 0) ∧
        execute (State.fetchInstr { s with halted := false }) = .next t) ∨
     (∃ op, s.inflight = .operand op ∧ execute (State.fetchSecond { s with inflight := .none } op) = .next t) ∨
     (∃ op lo, s.inflight = .operand2 op lo ∧ execute (State.fetchThird { s with inflight := .none } op lo) = .next t) ∨
     (∃ kind m rest, s.inflight = .running kind m rest ∧ t = State.tick (State.finishWork (runSchedule (m :: rest) s) kind))) := by
  by_cases ha : s.params.accepted = true
  · refine ⟨ha, ?_⟩
    have he : step s = (match s.inflight with
        | .none => boundaryStep s
        | .operand op => execute (State.fetchSecond { s with inflight := .none } op)
        | .operand2 op lo => execute (State.fetchThird { s with inflight := .none } op lo)
        | .running kind m rest => .next (State.tick (State.finishWork (runSchedule (m :: rest) s) kind))) := by
      unfold step engineStep
      exact if_pos ha
    rw [he] at h
    split at h
    · next hi =>
      unfold boundaryStep at h
      split at h
      · next hd => exact .inl ⟨hi, hd.1, hd.2, (Host.Outcome.next.inj h).symm⟩
      · next hd =>
        split at h
        · next hh => exact .inr (.inl ⟨hi, hh.1, hh.2, (Host.Outcome.next.inj h).symm⟩)
        · next hh => exact .inr (.inr (.inl ⟨hi, hd, hh, h⟩))
    · next op hi => exact .inr (.inr (.inr (.inl ⟨op, hi, h⟩)))
    · next op lo hi => exact .inr (.inr (.inr (.inr (.inl ⟨op, lo, hi, h⟩))))
    · next kind m rest hi =>
      exact .inr (.inr (.inr (.inr (.inr ⟨kind, m, rest, hi, (Host.Outcome.next.inj h).symm⟩))))
  · rw [step_not_accepted (by simpa using ha)] at h
    cases h

/-! ## What a whole instruction keeps -/

/-- What a tick keeps and a write of PC, the HALT-bug flag and the latches keeps, the fetches of an instruction keep. -/
theorem fetchInstr_keeps {P : State → Prop} (ht : ∀ s, P s → P s.tick)
    (hf : ∀ s, P s → ∀ pc hb la, P { s with pc := pc, haltBug := hb, latches := la }) {s : State} (h : P s) :
    P s.fetchInstr.2 := by
  have byte : ∀ (u : State) op, P u → P (u.fetchByte op).2 := fun u _ hu => hf u hu _ u.haltBug _
  have lo : ∀ (u : State) b, P u → P (u.latchLo b) := fun u _ hu => hf u hu u.pc u.haltBug _
  have third : ∀ (u : State) op b, P u → P (u.fetchThird op b).2 := fun u _ _ hu => hf u hu _ u.haltBug _
  have first : P s.fetchOpcode.2 := hf s h _ _ _
  by_cases h1 : fetchedLength (s.memRead s.pc) = 1
  · rw [fetchInstr_one h1]; exact first
  · rw [fetchInstr_more h1]
    generalize s.fetchOpcode.2 = u at first
    rcases fetchedLength_cases (s.memRead s.pc) with h | h | h
    · exact absurd h h1
    · rw [fetchSecond_two h]; exact byte _ _ (ht _ first)
    · rw [fetchSecond_three h]; exact third _ _ _ (ht _ (lo _ _ (byte _ _ (ht _ first))))

/-- The M-cycles `exec` runs: those of the instruction's schedule, or, for the prefix byte alone, of any CB opcode's. -/
def mayRun (i : Instr) (m : MicroOp) : Prop := if i = .cbPrefix then ∃ b, m ∈ cbSchedule b else m ∈ schedule i

/-- What a tick, a write of PC, the HALT-bug flag and the latches, and every M-cycle `exec` may run keep, `exec` keeps. -/
theorem exec_keeps {P : State → Prop} (ht : ∀ s, P s → P s.tick)
    (hf : ∀ s, P s → ∀ pc hb la, P { s with pc := pc, haltBug := hb, latches := la }) {i : Instr}
    (hm : ∀ m, mayRun i m → ∀ s, P s → P (m.run s)) {s t : State} (h : P s) (he : exec i s = .next t) : P t := by
  by_cases hcb : i = .cbPrefix
  · subst hcb
    rw [exec_cbPrefix_eq] at he
    rw [← Host.Outcome.next.inj he]
    refine runSchedule_keeps ht _ (fun m hx => hm m ?_) _ (hf _ (ht _ h) _ s.tick.haltBug _)
    exact ⟨_, hx⟩
  · rw [exec_next hcb he]
    refine runSchedule_keeps ht _ (fun m hx => hm m ?_) _ h
    unfold mayRun
    rw [if_neg hcb]
    exact hx

/-- What ticks, fetches, the work of every M-cycle and the engine's bookkeeping keep, a whole step keeps. -/
theorem step_keeps {P : State → Prop} (ht : ∀ s, P s → P s.tick) (hm : ∀ (m : MicroOp) s, P s → P (m.run s))
    (hf : ∀ s, P s → ∀ pc hb la, P { s with pc := pc, haltBug := hb, latches := la })
    (hi : ∀ s, P s → ∀ ha w, P { s with halted := ha, inflight := w })
    (he : ∀ s, P s → P s.eiTick) {s t : State} (h : P s) (hs : step s = .next t) : P t := by
  have fin : ∀ (f : List Byte × State), P f.2 → execute f = .next t → P t := by
    intro f hp hx
    obtain ⟨i, rest, u, -, hu, rfl⟩ := execute_next hx
    exact ht _ (he _ (exec_keeps ht hf (fun m _ => hm m) hp hu))
  have third : ∀ (u : State) op b, P u → P (u.fetchThird op b).2 := fun u _ _ hu => hf u hu _ u.haltBug _
  obtain ⟨-, hc⟩ := step_cases hs
  rcases hc with ⟨-, -, -, rfl⟩ | ⟨-, -, -, rfl⟩ | ⟨-, -, -, hx⟩ | ⟨op, -, hx⟩ | ⟨op, lo, -, hx⟩ | ⟨kind, m, rest, -, rfl⟩
  · exact ht _ (runSchedule_keeps ht _ (fun m _ => hm m) _ (hi s h false s.inflight))
  · exact ht _ h
  · exact fin _ (fetchInstr_keeps ht hf (hi s h false s.inflight)) hx
  · refine fin _ ?_ hx
    have h0 := hi s h s.halted .none
    rcases fetchedLength_cases op with hl | hl | hl
    · have e : State.fetchSecond { s with inflight := .none } op =
          (((State.fetchByte { s with inflight := .none } op).2.latchLo (State.memRead { s with inflight := .none } s.pc)).tick).fetchThird
            op (State.memRead { s with inflight := .none } s.pc) := by
        unfold State.fetchSecond
        dsimp only
        rw [if_neg (by omega)]
        rfl
      rw [e]
      exact third _ _ _ (ht _ (hf _ h0 _ s.haltBug _))
    · rw [fetchSecond_two hl]; exact hf _ h0 _ s.haltBug _
    · rw [fetchSecond_three hl]; exact third _ _ _ (ht _ (hf _ h0 _ s.haltBug _))
  · exact fin _ (third _ _ _ (hi s h s.halted .none)) hx
  · have hr : P (runSchedule (m :: rest) s) := runSchedule_keeps ht _ (fun m _ => hm m) _ h
    cases kind
    · exact ht _ (hi _ (he _ hr) _ .none)
    · exact ht _ (hi _ hr _ .none)

end Sys2Proof.Machine
end

