-- ==== Sys2Proof/Laws/System.lean ====
section
/-! SUPPORT. The machine of one M-cycle per system step (Machine/System.lean), run to the next instruction boundary: what a schedule in
flight, and an instruction whose bytes are fetched, come to. -/
namespace Sys2Proof.Machine

-- the peripherals' tick is never unfolded here
seal State.tick

theorem withInflight_self {s : State} {x : Inflight} (h : s.inflight = x) : s.withInflight x = s := by subst h; rfl

theorem runSchedule_withInflight : ∀ (ms : List MicroOp) (s : State) (x : Inflight), runSchedule ms (s.withInflight x) = (runSchedule ms s).withInflight x
  | [], _, _ => rfl
  | [m], s, x => run_withInflight m s x
  | m :: n :: rest, s, x => by
    rw [runSchedule_cons, runSchedule_cons, run_withInflight]
    have : m.ends ((m.run s).withInflight x) = m.ends (m.run s) := by cases m <;> rfl
    rw [this]
    split
    · rfl
    · rw [tick_withInflight, runSchedule_withInflight]

theorem finishWork_withInflight (s : State) (k : WorkKind) (x : Inflight) : (s.withInflight x).finishWork k = s.finishWork k := by
  cases k
  · have : (s.withInflight x).eiTick = s.eiTick.withInflight x := by
      unfold State.eiTick
      refine ite_withInflight (c := 0 < s.eiDelay) ?_ rfl
      exact ite_withInflight (c := s.eiDelay - 1 = 0) rfl rfl
    simp only [State.finishWork, this]; rfl
  · rfl

theorem finishWork_inflight (s : State) (k : WorkKind) : (s.finishWork k).inflight = .none := by cases k <;> rfl

theorem systemStep_accepted {s : State} (ha : s.params.accepted = true) : systemStep s = onNext s.cpuStep State.tick := by unfold systemStep; rw [if_pos ha]

theorem runToBoundary_next (n : Nat) {s t : State} (h : systemStep s = .next t) : runToBoundary (n+1) s = if t.inflight = .none then .next t else runToBoundary n t := by
  conv_lhs => unfold runToBoundary
  rw [h]

theorem ends_withInflight (m : MicroOp) (s : State) (x : Inflight) : m.ends (s.withInflight x) = m.ends s := by cases m <;> rfl

theorem runCycle_ends {m : MicroOp} {s : State} (h : m.ends (m.run s) = true) (kind) (rest : List MicroOp) : s.runCycle kind m rest = (m.run s).finishWork kind := if_pos h

theorem runCycle_last {m : MicroOp} (s : State) (kind) : s.runCycle kind m [] = (m.run s).finishWork kind := by
  unfold State.runCycle; exact ite_self _

theorem runCycle_more {m : MicroOp} {s : State} (h : m.ends (m.run s) = false) (kind) (n : MicroOp) (rest : List MicroOp) : s.runCycle kind m (n :: rest) = (m.run s).withInflight (.running kind n rest) := by
  refine (if_neg (c := m.ends (m.run s) = true) (by rw [h]; exact Bool.false_ne_true)).trans rfl

theorem runCycle_withInflight (s : State) (x : Inflight) (kind m rest) : (s.withInflight x).runCycle kind m rest = s.runCycle kind m rest := by
  have hr := run_withInflight m s x
  have he : m.ends (m.run (s.withInflight x)) = m.ends (m.run s) := by rw [hr]; exact ends_withInflight m _ x
  cases hends : m.ends (m.run s)
  · cases rest with
    | nil => rw [runCycle_last, runCycle_last, hr, finishWork_withInflight]
    | cons n rest => rw [runCycle_more hends, runCycle_more (he.trans hends), hr]; rfl
  · rw [runCycle_ends hends, runCycle_ends (he.trans hends), hr, finishWork_withInflight]

/-- What the run to the boundary does with the outcome of a system step. -/
def afterSystemStep (n : Nat) (r : Result) : Result :=
  match r with
  | .next t => if t.inflight = .none then .next t else runToBoundary n t
  | r => r

/-- a cycle and the rest of the work -/
theorem runCycle_toBoundary (kind : WorkKind) : ∀ (m : MicroOp) (rest : List MicroOp) (n : Nat) (s : State), s.params.accepted = true → rest.length ≤ n →
    (if (State.tick (s.runCycle kind m rest)).inflight = .none then Host.Outcome.next (State.tick (s.runCycle kind m rest)) else runToBoundary n (State.tick (s.runCycle kind m rest)))
      = .next (State.tick (State.finishWork (runSchedule (m :: rest) s) kind))
  | m, rest, n, s, ha, hn => by
    have h0 : ((m.run s).finishWork kind).tick.inflight = .none := by rw [tick_inflight, finishWork_inflight]
    cases rest with
    | nil => rw [runCycle_last, runSchedule_one]; exact if_pos h0
    | cons m2 rest =>
      cases hends : m.ends (m.run s)
      · rw [runCycle_more hends, tick_withInflight]
        obtain ⟨n, rfl⟩ : ∃ k, n = k + 1 := ⟨n - 1, by simp at hn; omega⟩
        have hp : (m.run s).tick.params.accepted = true := by rw [tick_params, run_params]; exact ha
        have h1 : systemStep ((m.run s).tick.withInflight (.running kind m2 rest)) = .next (State.tick (State.runCycle (m.run s).tick kind m2 rest)) := by
          rw [systemStep_accepted (s := (m.run s).tick.withInflight (.running kind m2 rest)) hp]
          exact congrArg (fun t => Host.Outcome.next (State.tick t)) (runCycle_withInflight _ _ _ _ _)
        rw [runToBoundary_next n h1]
        refine (if_neg (c := ((m.run s).tick.withInflight (.running kind m2 rest)).inflight = .none) (by intro h; cases h)).trans ?_
        rw [runCycle_toBoundary kind m2 rest n _ hp (by simp at hn; omega)]
        rw [runSchedule_cons, hends]
        simp only [Bool.false_eq_true, if_false]
      · rw [runCycle_ends hends, runSchedule_cons, hends]
        simp only [if_true]
        exact if_pos h0

theorem schedule_length (i : Instr) : ∀ (op : Byte) (rest : List Byte), encodeFetched i = op :: rest → (schedule i).length + rest.length ≤ 6 := by
  cases i <;> (intro op rest h; cases h; exact Nat.le_of_ble_eq_true rfl)

/-- beginWork to the end is exec completed -/
theorem beginWork_toBoundary {bytes rest : List Byte} {i : Instr} (hd : decodeFetched bytes = .ok (i, rest)) (hcb : i ≠ .cbPrefix) (s : State) (ha : s.params.accepted = true) (hi : s.inflight = .none) (n : Nat) (hn : (schedule i).length ≤ n + 1) :
    afterSystemStep n (onNext (s.beginWork bytes) State.tick) = onNext (exec i s) State.complete := by
  unfold State.beginWork
  rw [hd]
  dsimp only
  have key : exec i s = .next (runSchedule (schedule i) s) → (match onNext (match schedule i with | [] => Host.Outcome.next (s.finishWork .instruction) | m :: rest => .next (s.runCycle .instruction m rest)) State.tick with
      | .next t => if t.inflight = .none then Host.Outcome.next t else runToBoundary n t
      | r => (r : Result)) = onNext (exec i s) State.complete := by
    intro he
    rw [he]
    have fin : ∀ u : State, u.inflight = .none → u.finishWork .instruction = u.eiTick := fun u hu => withInflight_self (s := u.eiTick) (x := .none) (by simpa using hu)
    have hri : (runSchedule (schedule i) s).inflight = .none := (runSchedule_field State.inflight tick_inflight _ (fun m _ s => run_inflight m s) s).trans hi
    cases hs : schedule i with
    | nil =>
      simp only [onNext, runSchedule_nil, fin s hi, State.complete]
      rw [if_pos (by simp [hi])]
    | cons m rest =>
      rw [hs] at hri hn
      simp only [onNext, State.complete]
      rw [runCycle_toBoundary _ _ _ _ _ ha (by simpa using hn), fin _ hri]
  rcases exec_cases i hcb s with h | ⟨op, h1, h2, h3⟩
  · rw [← key h]
    cases hp : s.params.illegalOpcodes
    · cases hs : schedule i with
      | nil => rfl
      | cons m rest => cases m <;> rfl
    · have hnd : ∀ op rest, schedule i ≠ .diagnose op :: rest := by
        intro op rest hs
        have : exec i s = .refused (.undefinedOpcode op) := by
          revert hs
          have u : ∀ op', undefinedOpcode op' s = .refused (.undefinedOpcode op') := by intro op'; unfold undefinedOpcode; rw [hp]
          clear key h hn hd hcb
          cases i <;> first | (intro hs; cases hs; done) | (intro hs; cases hs; exact u _)
        rw [h] at this; cases this
      cases hs : schedule i with
      | nil => rfl
      | cons m rest => cases m <;> first | rfl | exact absurd hs (hnd _ _)
  · rw [h1, h2, h3]; rfl

theorem beginWork_withInflight (s : State) (x : Inflight) (bytes) : (s.withInflight x).beginWork bytes = s.beginWork bytes := by
  unfold State.beginWork
  cases hd : decodeFetched bytes with
  | error e => rfl
  | ok p =>
    obtain ⟨i, rest⟩ := p
    dsimp only
    rw [show (s.withInflight x).params = s.params from rfl]
    cases hs : schedule i with
    | nil => exact congrArg Host.Outcome.next (finishWork_withInflight s .instruction x)
    | cons m ms =>
      have h := congrArg Host.Outcome.next (runCycle_withInflight s x .instruction m ms) (β := Result)
      cases s.params.illegalOpcodes
      · cases m <;> exact h
      · cases m <;> first | exact h | rfl

theorem fetchByte_withInflight (s : State) (x : Inflight) (op : Byte) : (s.withInflight x).fetchByte op = ((s.fetchByte op).1, (s.fetchByte op).2.withInflight x) := rfl

theorem runToBoundary_after (n : Nat) (s : State) (r : Result) (h : systemStep s = r) : runToBoundary (n+1) s = afterSystemStep n r := by
  subst h; rfl

end Sys2Proof.Machine
end

