-- ==== Sys2Proof/Tests/Slice0.lean ====
section
/-! SUPPORT. The model's own tests. The expected results are the spec's: the checks of rules R93 and R123, the opcode maps of R119 and
R120, the vectors of 95_test_vectors.md (named in each test), and, for the statements with hypotheses, one witness for each. -/
namespace Sys2Proof.Tests
open Sys2Proof Sys2Proof.Machine

set_option maxRecDepth 20000

/-! ## WellFormed: what the checks refuse -/

theorem test_prefix_alone_is_not_an_instruction : Instr.wellFormed .cbPrefix = false := by decide

theorem test_other_terms_are_well_formed :
    ([.nop, .ld_SP_nn 0xFFFE, .swap_A, .undef_D3] : List Instr).all Instr.wellFormed = true := by decide

/-- Parameters with an MBC1 cartridge of a ROM size. -/
def mbc1Params (romSize : Nat) : Params := { Params.default with cartKind := .mbc1, romSize := romSize }

theorem test_mbc1_without_rom_is_refused : (mbc1Params 0).accepted = false := by decide

theorem test_mbc1_with_a_partial_bank_is_refused : (mbc1Params 0x4001).accepted = false := by decide

theorem test_mbc1_with_whole_banks_is_accepted : (mbc1Params 0x4000).accepted = true := by decide

/-! ## Decode: the two opcode maps, row by row -/

/-- What the decoder reads from bytes, none where it refuses. -/
def decoded (bytes : List Byte) : Option Instr :=
  match decode .skip1 bytes with
  | .ok (i, _) => some i
  | .error _ => none

/-- The sixteen opcodes of a row of the base map, each followed by the bytes 0x34 and 0x12. -/
def baseRow (hi : Nat) : List (Option Instr) :=
  (List.range 16).map (fun lo => decoded [BitVec.ofNat 8 (16 * hi + lo), 0x34, 0x12])

/-- The sixteen opcodes of a row of the CB map. -/
def cbRow (hi : Nat) : List (Option Instr) := (List.range 16).map (fun lo => decoded [0xCB, BitVec.ofNat 8 (16 * hi + lo)])

theorem test_base_map_0x : baseRow 0x0 = List.map some [
    .nop, .ld_BC_nn 0x1234, .ld_atBC_A, .inc_BC, .inc_B, .dec_B, .ld_B_n 0x34, .rlca, .ld_atnn_SP 0x1234, .add_HL_BC,
    .ld_A_atBC, .dec_BC, .inc_C, .dec_C, .ld_C_n 0x34, .rrca] := by decide

theorem test_base_map_1x : baseRow 0x1 = List.map some [
    .stop, .ld_DE_nn 0x1234, .ld_atDE_A, .inc_DE, .inc_D, .dec_D, .ld_D_n 0x34, .rla, .jr_e 0x34, .add_HL_DE, .ld_A_atDE,
    .dec_DE, .inc_E, .dec_E, .ld_E_n 0x34, .rra] := by decide

theorem test_base_map_2x : baseRow 0x2 = List.map some [
    .jr_NZ_e 0x34, .ld_HL_nn 0x1234, .ld_atHLinc_A, .inc_HL, .inc_H, .dec_H, .ld_H_n 0x34, .daa, .jr_Z_e 0x34, .add_HL_HL,
    .ld_A_atHLinc, .dec_HL, .inc_L, .dec_L, .ld_L_n 0x34, .cpl] := by decide

theorem test_base_map_3x : baseRow 0x3 = List.map some [
    .jr_NC_e 0x34, .ld_SP_nn 0x1234, .ld_atHLdec_A, .inc_SP, .inc_atHL, .dec_atHL, .ld_atHL_n 0x34, .scf, .jr_C_e 0x34,
    .add_HL_SP, .ld_A_atHLdec, .dec_SP, .inc_A, .dec_A, .ld_A_n 0x34, .ccf] := by decide

theorem test_base_map_4x : baseRow 0x4 = List.map some [
    .ld_B_B, .ld_B_C, .ld_B_D, .ld_B_E, .ld_B_H, .ld_B_L, .ld_B_atHL, .ld_B_A, .ld_C_B, .ld_C_C, .ld_C_D, .ld_C_E, .ld_C_H,
    .ld_C_L, .ld_C_atHL, .ld_C_A] := by decide

theorem test_base_map_5x : baseRow 0x5 = List.map some [
    .ld_D_B, .ld_D_C, .ld_D_D, .ld_D_E, .ld_D_H, .ld_D_L, .ld_D_atHL, .ld_D_A, .ld_E_B, .ld_E_C, .ld_E_D, .ld_E_E, .ld_E_H,
    .ld_E_L, .ld_E_atHL, .ld_E_A] := by decide

theorem test_base_map_6x : baseRow 0x6 = List.map some [
    .ld_H_B, .ld_H_C, .ld_H_D, .ld_H_E, .ld_H_H, .ld_H_L, .ld_H_atHL, .ld_H_A, .ld_L_B, .ld_L_C, .ld_L_D, .ld_L_E, .ld_L_H,
    .ld_L_L, .ld_L_atHL, .ld_L_A] := by decide

theorem test_base_map_7x : baseRow 0x7 = List.map some [
    .ld_atHL_B, .ld_atHL_C, .ld_atHL_D, .ld_atHL_E, .ld_atHL_H, .ld_atHL_L, .halt, .ld_atHL_A, .ld_A_B, .ld_A_C, .ld_A_D,
    .ld_A_E, .ld_A_H, .ld_A_L, .ld_A_atHL, .ld_A_A] := by decide

theorem test_base_map_8x : baseRow 0x8 = List.map some [
    .add_A_B, .add_A_C, .add_A_D, .add_A_E, .add_A_H, .add_A_L, .add_A_atHL, .add_A_A, .adc_A_B, .adc_A_C, .adc_A_D, .adc_A_E,
    .adc_A_H, .adc_A_L, .adc_A_atHL, .adc_A_A] := by decide

theorem test_base_map_9x : baseRow 0x9 = List.map some [
    .sub_B, .sub_C, .sub_D, .sub_E, .sub_H, .sub_L, .sub_atHL, .sub_A, .sbc_A_B, .sbc_A_C, .sbc_A_D, .sbc_A_E, .sbc_A_H,
    .sbc_A_L, .sbc_A_atHL, .sbc_A_A] := by decide

theorem test_base_map_ax : baseRow 0xA = List.map some [
    .and_B, .and_C, .and_D, .and_E, .and_H, .and_L, .and_atHL, .and_A, .xor_B, .xor_C, .xor_D, .xor_E, .xor_H, .xor_L,
    .xor_atHL, .xor_A] := by decide

theorem test_base_map_bx : baseRow 0xB = List.map some [
    .or_B, .or_C, .or_D, .or_E, .or_H, .or_L, .or_atHL, .or_A, .cp_B, .cp_C, .cp_D, .cp_E, .cp_H, .cp_L, .cp_atHL, .cp_A] := by decide

/-- The cell PREFIX CB is followed by 0x34 here: SWAP H. -/
theorem test_base_map_cx : baseRow 0xC = List.map some [
    .ret_NZ, .pop_BC, .jp_NZ_nn 0x1234, .jp_nn 0x1234, .call_NZ_nn 0x1234, .push_BC, .add_A_n 0x34, .rst_00, .ret_Z, .ret,
    .jp_Z_nn 0x1234, .swap_H, .call_Z_nn 0x1234, .call_nn 0x1234, .adc_A_n 0x34, .rst_08] := by decide

theorem test_base_map_dx : baseRow 0xD = List.map some [
    .ret_NC, .pop_DE, .jp_NC_nn 0x1234, .undef_D3, .call_NC_nn 0x1234, .push_DE, .sub_n 0x34, .rst_10, .ret_C, .reti,
    .jp_C_nn 0x1234, .undef_DB, .call_C_nn 0x1234, .undef_DD, .sbc_A_n 0x34, .rst_18] := by decide

theorem test_base_map_ex : baseRow 0xE = List.map some [
    .ldh_atn_A 0x34, .pop_HL, .ld_atC_A, .undef_E3, .undef_E4, .push_HL, .and_n 0x34, .rst_20, .add_SP_e 0x34, .jp_HL,
    .ld_atnn_A 0x1234, .undef_EB, .undef_EC, .undef_ED, .xor_n 0x34, .rst_28] := by decide

theorem test_base_map_fx : baseRow 0xF = List.map some [
    .ldh_A_atn 0x34, .pop_AF, .ld_A_atC, .di, .undef_F4, .push_AF, .or_n 0x34, .rst_30, .ld_HL_SPe 0x34, .ld_SP_HL,
    .ld_A_atnn 0x1234, .ei, .undef_FC, .undef_FD, .cp_n 0x34, .rst_38] := by decide

theorem test_cb_map_0x : cbRow 0x0 = List.map some [
    .rlc_B, .rlc_C, .rlc_D, .rlc_E, .rlc_H, .rlc_L, .rlc_atHL, .rlc_A, .rrc_B, .rrc_C, .rrc_D, .rrc_E, .rrc_H, .rrc_L,
    .rrc_atHL, .rrc_A] := by decide

theorem test_cb_map_1x : cbRow 0x1 = List.map some [
    .rl_B, .rl_C, .rl_D, .rl_E, .rl_H, .rl_L, .rl_atHL, .rl_A, .rr_B, .rr_C, .rr_D, .rr_E, .rr_H, .rr_L, .rr_atHL, .rr_A] := by decide

theorem test_cb_map_2x : cbRow 0x2 = List.map some [
    .sla_B, .sla_C, .sla_D, .sla_E, .sla_H, .sla_L, .sla_atHL, .sla_A, .sra_B, .sra_C, .sra_D, .sra_E, .sra_H, .sra_L,
    .sra_atHL, .sra_A] := by decide

theorem test_cb_map_3x : cbRow 0x3 = List.map some [
    .swap_B, .swap_C, .swap_D, .swap_E, .swap_H, .swap_L, .swap_atHL, .swap_A, .srl_B, .srl_C, .srl_D, .srl_E, .srl_H, .srl_L,
    .srl_atHL, .srl_A] := by decide

theorem test_cb_map_4x : cbRow 0x4 = List.map some [
    .bit_0_B, .bit_0_C, .bit_0_D, .bit_0_E, .bit_0_H, .bit_0_L, .bit_0_atHL, .bit_0_A, .bit_1_B, .bit_1_C, .bit_1_D, .bit_1_E,
    .bit_1_H, .bit_1_L, .bit_1_atHL, .bit_1_A] := by decide

theorem test_cb_map_5x : cbRow 0x5 = List.map some [
    .bit_2_B, .bit_2_C, .bit_2_D, .bit_2_E, .bit_2_H, .bit_2_L, .bit_2_atHL, .bit_2_A, .bit_3_B, .bit_3_C, .bit_3_D, .bit_3_E,
    .bit_3_H, .bit_3_L, .bit_3_atHL, .bit_3_A] := by decide

theorem test_cb_map_6x : cbRow 0x6 = List.map some [
    .bit_4_B, .bit_4_C, .bit_4_D, .bit_4_E, .bit_4_H, .bit_4_L, .bit_4_atHL, .bit_4_A, .bit_5_B, .bit_5_C, .bit_5_D, .bit_5_E,
    .bit_5_H, .bit_5_L, .bit_5_atHL, .bit_5_A] := by decide

theorem test_cb_map_7x : cbRow 0x7 = List.map some [
    .bit_6_B, .bit_6_C, .bit_6_D, .bit_6_E, .bit_6_H, .bit_6_L, .bit_6_atHL, .bit_6_A, .bit_7_B, .bit_7_C, .bit_7_D, .bit_7_E,
    .bit_7_H, .bit_7_L, .bit_7_atHL, .bit_7_A] := by decide

theorem test_cb_map_8x : cbRow 0x8 = List.map some [
    .res_0_B, .res_0_C, .res_0_D, .res_0_E, .res_0_H, .res_0_L, .res_0_atHL, .res_0_A, .res_1_B, .res_1_C, .res_1_D, .res_1_E,
    .res_1_H, .res_1_L, .res_1_atHL, .res_1_A] := by decide

theorem test_cb_map_9x : cbRow 0x9 = List.map some [
    .res_2_B, .res_2_C, .res_2_D, .res_2_E, .res_2_H, .res_2_L, .res_2_atHL, .res_2_A, .res_3_B, .res_3_C, .res_3_D, .res_3_E,
    .res_3_H, .res_3_L, .res_3_atHL, .res_3_A] := by decide

theorem test_cb_map_ax : cbRow 0xA = List.map some [
    .res_4_B, .res_4_C, .res_4_D, .res_4_E, .res_4_H, .res_4_L, .res_4_atHL, .res_4_A, .res_5_B, .res_5_C, .res_5_D, .res_5_E,
    .res_5_H, .res_5_L, .res_5_atHL, .res_5_A] := by decide

theorem test_cb_map_bx : cbRow 0xB = List.map some [
    .res_6_B, .res_6_C, .res_6_D, .res_6_E, .res_6_H, .res_6_L, .res_6_atHL, .res_6_A, .res_7_B, .res_7_C, .res_7_D, .res_7_E,
    .res_7_H, .res_7_L, .res_7_atHL, .res_7_A] := by decide

theorem test_cb_map_cx : cbRow 0xC = List.map some [
    .set_0_B, .set_0_C, .set_0_D, .set_0_E, .set_0_H, .set_0_L, .set_0_atHL, .set_0_A, .set_1_B, .set_1_C, .set_1_D, .set_1_E,
    .set_1_H, .set_1_L, .set_1_atHL, .set_1_A] := by decide

theorem test_cb_map_dx : cbRow 0xD = List.map some [
    .set_2_B, .set_2_C, .set_2_D, .set_2_E, .set_2_H, .set_2_L, .set_2_atHL, .set_2_A, .set_3_B, .set_3_C, .set_3_D, .set_3_E,
    .set_3_H, .set_3_L, .set_3_atHL, .set_3_A] := by decide

theorem test_cb_map_ex : cbRow 0xE = List.map some [
    .set_4_B, .set_4_C, .set_4_D, .set_4_E, .set_4_H, .set_4_L, .set_4_atHL, .set_4_A, .set_5_B, .set_5_C, .set_5_D, .set_5_E,
    .set_5_H, .set_5_L, .set_5_atHL, .set_5_A] := by decide

theorem test_cb_map_fx : cbRow 0xF = List.map some [
    .set_6_B, .set_6_C, .set_6_D, .set_6_E, .set_6_H, .set_6_L, .set_6_atHL, .set_6_A, .set_7_B, .set_7_C, .set_7_D, .set_7_E,
    .set_7_H, .set_7_L, .set_7_atHL, .set_7_A] := by decide

theorem test_prefix_byte_alone : decode .skip1 [0xCB] = .ok (.cbPrefix, []) := by decide

/-- The format `stop` of R111: two bytes under `SKIP1`, whatever the second is, and one under `NOP1`. -/
theorem test_stop_takes_its_ignored_byte_under_skip1 :
    decode .skip1 [0x10, 0x3C, 0x00] = .ok (.stop, [0x00]) ∧ decode .skip1 [0x10] = .error (.truncated 0x10) ∧
    instrLength .skip1 0x10 = 2 ∧ encode .skip1 0x3C .stop = [0x10, 0x3C] := by decide

theorem test_stop_is_one_byte_under_nop1 :
    decode .nop1 [0x10, 0x3C, 0x00] = .ok (.stop, [0x3C, 0x00]) ∧ decode .nop1 [0x10] = .ok (.stop, []) ∧
    instrLength .nop1 0x10 = 1 ∧ encode .nop1 0x3C .stop = [0x10] := by decide

theorem test_short_bytes_are_refused : [decoded [], decoded [0x3E], decoded [0xC3, 0x34], decoded [0x08]] = [none, none, none, none] := by
  decide

/-- The words of one instruction of each format of R111, field by field, and of one operand of two bytes, low byte first (R112). -/
theorem test_formats_bit_by_bit :
    decoded [0b01_110_011] = some .ld_atHL_E ∧ decoded [0b00_101_110, 0b10100101] = some (.ld_L_n 0xA5) ∧
    decoded [0b10_011_110] = some .sbc_A_atHL ∧ decoded [0b11_101_110, 0b00001111] = some (.xor_n 0x0F) ∧
    decoded [0b00_11_0011] = some .inc_SP ∧ decoded [0b00_10_1001] = some .add_HL_HL ∧
    decoded [0b00_01_0001, 0b00110100, 0b00010010] = some (.ld_DE_nn 0x1234) ∧ decoded [0b11_10_0101] = some .push_HL ∧
    decoded [0b001_11_000, 0b11111110] = some (.jr_C_e 0xFE) ∧ decoded [0b110_10_010, 0b00000000, 0b10000000] = some (.jp_NC_nn 0x8000) ∧
    decoded [0b11_110_111] = some .rst_30 ∧ decoded [0b11001011, 0b00_110_001] = some .swap_C ∧
    decoded [0b11001011, 0b10_101_110] = some .res_5_atHL := by decide

theorem test_table_numbering :
    decodeTableWord 8 0x76 = some .halt ∧ decodeTableWord 24 0x1234CD = some (.call_nn 0x1234) ∧
    decodeTableWord 8 0x18 = some (.jr_e 0) ∧ decodeTableWord 16 0xCB37 = some .swap_A := by decide

/-! ## Steps: vectors of 95_test_vectors.md, one step each -/

/-- The conventions of 95_test_vectors.md: the display off, the timer disabled, no interrupt, RAM zero, no overlay. -/
def start (pc : Word) : State := { State.reset with bootEnabled := false, pc := pc }

/-- `start` in work RAM, with the registers and F changed. -/
def withRegs (f : Byte) (g : Regs → Regs) : State := { start 0xC100 with regs := g (start 0).regs, flags := Flags.unpack f }

/-- The step of the bytes placed at PC answers a next state that passes the check, after the given M-cycles. -/
def runs (s : State) (bytes : List Byte) (cycles : Nat) (check : State → Bool) : Bool :=
  match step (State.placeBytes bytes s.pc s) with
  | .next t => check t && decide (t.clock = 4 * cycles)
  | _ => false

theorem test_L1_ld_B_C :
    runs (withRegs 0x00 (fun g => { g with c := 0x99 }))
      [0x41] 1 (fun t => t.regs.b = 0x99) = true := by decide

theorem test_L2_ld_atHL_n :
    runs (withRegs 0x00 (fun g => { g with h := 0xFF, l := 0x81 }))
      [0x36, 0xA5] 3 (fun t => t.hram.read 1 = 0xA5) = true := by decide

theorem test_L3_ld_A_atDE :
    runs (withRegs 0x00 (fun g => { g with d := 0xFF, e := 0x50 }))
      [0x1A] 2 (fun t => t.regs.a = 0xFF) = true := by decide

theorem test_L4_ld_atBC_A :
    runs (withRegs 0x00 (fun g => { g with a := 0x11, b := 0xFF, c := 0x0F }))
      [0x02] 2 (fun t => t.iflag = 0x11) = true := by decide

theorem test_L5_ld_A_atnn_echo :
    runs (State.placeBytes [0x66] 0xC000 (withRegs 0x00 id))
      [0xFA, 0x00, 0xE0] 4 (fun t => t.regs.a = 0x66) = true := by decide

theorem test_L6_ld_atnn_A :
    runs (withRegs 0x00 (fun g => { g with a := 0x9D }))
      [0xEA, 0x34, 0xC2] 4 (fun t => t.memRead 0xC234 = 0x9D) = true := by decide

theorem test_L7_ldh_A_ly :
    runs (withRegs 0x00 (fun g => { g with a := 0x01 }))
      [0xF0, 0x44] 3 (fun t => t.regs.a = 0x00) = true := by decide

theorem test_L8_ldh_atn_A :
    runs (withRegs 0x00 (fun g => { g with a := 0x12 }))
      [0xE0, 0x80] 3 (fun t => t.memRead 0xFF80 = 0x12) = true := by decide

theorem test_L9_ld_A_atC :
    runs (withRegs 0x00 (fun g => { g with c := 0x0F }))
      [0xF2] 2 (fun t => t.regs.a = 0xE0) = true := by decide

theorem test_L10_ld_atC_A :
    runs (withRegs 0x00 (fun g => { g with a := 0x0A, c := 0x0F }))
      [0xE2] 2 (fun t => t.iflag = 0x0A) = true := by decide

theorem test_L11_ld_A_hlinc :
    runs (State.placeBytes [0x42] 0xC0FF (withRegs 0x00 (fun g => { g with h := 0xC0, l := 0xFF })))
      [0x2A] 2 (fun t => t.regs.a = 0x42 && t.hl = 0xC100) = true := by decide

theorem test_L12_ld_A_hldec_wraps :
    runs (withRegs 0x00 (fun g => { g with a := 0x01 }))
      [0x3A] 2 (fun t => t.regs.a = 0x00 && t.hl = 0xFFFF) = true := by decide

theorem test_L13_ld_hlinc_A_ie :
    runs (withRegs 0x00 (fun g => { g with a := 0x5C, h := 0xFF, l := 0xFF }))
      [0x22] 2 (fun t => t.ie = 0x1C && t.hl = 0x0000) = true := by decide

theorem test_L14_ld_hldec_A :
    runs (withRegs 0x00 (fun g => { g with a := 0x7E, h := 0xC0 }))
      [0x32] 2 (fun t => t.memRead 0xC000 = 0x7E && t.hl = 0xBFFF) = true := by decide

theorem test_W1_ld_SP_nn :
    runs (withRegs 0x00 id)
      [0x31, 0xFE, 0xFF] 3 (fun t => t.sp = 0xFFFE) = true := by decide

theorem test_W2_ld_atnn_SP :
    runs ({ withRegs 0x00 id with sp := 0xFFF8 })
      [0x08, 0x00, 0xC0] 5 (fun t => t.memRead 0xC000 = 0xF8 && t.memRead 0xC001 = 0xFF) = true := by decide

theorem test_W3_ld_SP_HL :
    runs (withRegs 0x00 (fun g => { g with h := 0xDF, l := 0xFF }))
      [0xF9] 2 (fun t => t.sp = 0xDFFF) = true := by decide

theorem test_W4_push_BC_wraps_into_ie :
    runs (withRegs 0x00 (fun g => { g with b := 0xBE, c := 0xEF }))
      [0xC5] 4 (fun t => t.ie = 0x1E && t.memRead 0xFFFE = 0xEF && t.sp = 0xFFFE) = true := by decide

theorem test_W5_pop_AF_clears_low_nibble :
    runs (State.placeBytes [0xFF, 0x12] 0xC010 ({ withRegs 0x00 id with sp := 0xC010 }))
      [0xF1] 3 (fun t => t.af = 0x12F0 && t.sp = 0xC012) = true := by decide

theorem test_W6_ld_HL_SPe :
    runs ({ withRegs 0x00 id with sp := 0xFFF8 })
      [0xF8, 0x02] 3 (fun t => t.hl = 0xFFFA && t.sp = 0xFFF8 && t.flags.pack = 0x00) = true := by decide

theorem test_W7_ld_HL_SPe_negative :
    runs ({ withRegs 0x00 id with sp := 0x0001 })
      [0xF8, 0xFF] 3 (fun t => t.hl = 0x0000 && t.flags.pack = 0x30) = true := by decide

theorem test_A1_add_half_carry :
    runs (withRegs 0x00 (fun g => { g with a := 0x0F, b := 0x01 }))
      [0x80] 1 (fun t => t.regs.a = 0x10 && t.flags.pack = 0x20) = true := by decide

theorem test_A3_adc_carries_in :
    runs (withRegs 0x10 (fun g => { g with a := 0xFF }))
      [0xCE, 0x00] 2 (fun t => t.regs.a = 0x00 && t.flags.pack = 0xB0) = true := by decide

theorem test_A6_sub_borrows :
    runs (withRegs 0x00 id)
      [0xD6, 0x01] 2 (fun t => t.regs.a = 0xFF && t.flags.pack = 0x70) = true := by decide

theorem test_A7_sbc_full_borrow :
    runs (withRegs 0x10 (fun g => { g with a := 0x00 }))
      [0xDE, 0xFF] 2 (fun t => t.regs.a = 0x00 && t.flags.pack = 0xF0) = true := by decide

theorem test_A28_sbc_A_H :
    runs (withRegs 0x10 (fun g => { g with a := 0x3B, h := 0x2A }))
      [0x9C] 1 (fun t => t.regs.a = 0x10 && t.flags.pack = 0x40) = true := by decide

theorem test_A10_and_n :
    runs (withRegs 0x10 (fun g => { g with a := 0xF0 }))
      [0xE6, 0x0F] 2 (fun t => t.regs.a = 0x00 && t.flags.pack = 0xA0) = true := by decide

theorem test_A29_and_atHL :
    runs (State.placeBytes [0x3F] 0xFF80 (withRegs 0x00 (fun g => { g with a := 0x5A, h := 0xFF, l := 0x80 })))
      [0xA6] 2 (fun t => t.regs.a = 0x1A && t.flags.pack = 0x20) = true := by decide

theorem test_A11_xor_A :
    runs (withRegs 0xF0 (fun g => { g with a := 0x77 }))
      [0xAF] 1 (fun t => t.regs.a = 0x00 && t.flags.pack = 0x80) = true := by decide

theorem test_A12_or_B :
    runs (withRegs 0x70 (fun g => { g with a := 0x00 }))
      [0xB0] 1 (fun t => t.regs.a = 0x00 && t.flags.pack = 0x80) = true := by decide

theorem test_A14_cp_less :
    runs (withRegs 0x00 (fun g => { g with a := 0x3C }))
      [0xFE, 0x40] 2 (fun t => t.regs.a = 0x3C && t.flags.pack = 0x50) = true := by decide

theorem test_A15_inc_keeps_carry :
    runs (withRegs 0x10 (fun g => { g with b := 0xFF }))
      [0x04] 1 (fun t => t.regs.b = 0x00 && t.flags.pack = 0xB0) = true := by decide

theorem test_A18_dec_keeps_carry :
    runs (withRegs 0x10 (fun g => { g with b := 0x10 }))
      [0x05] 1 (fun t => t.regs.b = 0x0F && t.flags.pack = 0x70) = true := by decide

theorem test_A20_inc_atHL :
    runs (State.placeBytes [0x0F] 0xC000 (withRegs 0x00 (fun g => { g with h := 0xC0 })))
      [0x34] 3 (fun t => t.memRead 0xC000 = 0x10 && t.flags.pack = 0x20) = true := by decide

theorem test_A21_dec_atHL :
    runs (withRegs 0x00 (fun g => { g with h := 0xC0 }))
      [0x35] 3 (fun t => t.memRead 0xC000 = 0xFF && t.flags.pack = 0x60) = true := by decide

theorem test_A23_daa_both_adjustments :
    runs (withRegs 0x00 (fun g => { g with a := 0x9A }))
      [0x27] 1 (fun t => t.regs.a = 0x00 && t.flags.pack = 0x90) = true := by decide

theorem test_S1_6_daa_after_sub :
    runs (withRegs 0x60 (fun g => { g with a := 0x2B }))
      [0x27] 1 (fun t => t.regs.a = 0x25 && t.flags.pack = 0x40) = true := by decide

theorem test_A24_cpl :
    runs (withRegs 0x90 (fun g => { g with a := 0x35 }))
      [0x2F] 1 (fun t => t.regs.a = 0xCA && t.flags.pack = 0xF0) = true := by decide

theorem test_A25_scf :
    runs (withRegs 0xE0 (fun g => { g with a := 0x00 }))
      [0x37] 1 (fun t => t.flags.pack = 0x90) = true := by decide

theorem test_A26_ccf :
    runs (withRegs 0xF0 (fun g => { g with a := 0x00 }))
      [0x3F] 1 (fun t => t.flags.pack = 0x80) = true := by decide

theorem test_B1_add_HL_BC :
    runs (withRegs 0x00 (fun g => { g with b := 0x06, c := 0x05, h := 0x8A, l := 0x23 }))
      [0x09] 2 (fun t => t.hl = 0x9028 && t.flags.pack = 0x20) = true := by decide

theorem test_B3_add_HL_keeps_z :
    runs (withRegs 0x80 (fun g => { g with c := 0x01, h := 0xFF, l := 0xFF }))
      [0x09] 2 (fun t => t.hl = 0x0000 && t.flags.pack = 0xB0) = true := by decide

theorem test_B4_inc_BC_wraps :
    runs (withRegs 0x00 (fun g => { g with b := 0xFF, c := 0xFF }))
      [0x03] 2 (fun t => t.bc = 0x0000 && t.flags.pack = 0x00) = true := by decide

theorem test_B5_dec_BC_wraps :
    runs (withRegs 0xF0 (fun g => { g with b := 0x00 }))
      [0x0B] 2 (fun t => t.bc = 0xFFFF && t.flags.pack = 0xF0) = true := by decide

theorem test_B6_add_SP_e :
    runs ({ withRegs 0x00 id with sp := 0xFFF8 })
      [0xE8, 0x08] 4 (fun t => t.sp = 0x0000 && t.flags.pack = 0x30) = true := by decide

theorem test_B7_add_SP_negative :
    runs ({ withRegs 0x00 id with sp := 0xD000 })
      [0xE8, 0xFF] 4 (fun t => t.sp = 0xCFFF && t.flags.pack = 0x00) = true := by decide

theorem test_R2_rlca_clears_z :
    runs (withRegs 0x80 (fun g => { g with a := 0x00 }))
      [0x07] 1 (fun t => t.regs.a = 0x00 && t.flags.pack = 0x00) = true := by decide

theorem test_R3_rrca :
    runs (withRegs 0x00 (fun g => { g with a := 0x01 }))
      [0x0F] 1 (fun t => t.regs.a = 0x80 && t.flags.pack = 0x10) = true := by decide

theorem test_R4_rla :
    runs (withRegs 0x00 (fun g => { g with a := 0x80 }))
      [0x17] 1 (fun t => t.regs.a = 0x00 && t.flags.pack = 0x10) = true := by decide

theorem test_R5_rra :
    runs (withRegs 0x00 (fun g => { g with a := 0x01 }))
      [0x1F] 1 (fun t => t.regs.a = 0x00 && t.flags.pack = 0x10) = true := by decide

theorem test_R7_rlc_B :
    runs (withRegs 0x00 (fun g => { g with b := 0x80 }))
      [0xCB, 0x00] 2 (fun t => t.regs.b = 0x01 && t.flags.pack = 0x10) = true := by decide

theorem test_R8_rrc_C :
    runs (withRegs 0x00 (fun g => { g with c := 0x01 }))
      [0xCB, 0x09] 2 (fun t => t.regs.c = 0x80 && t.flags.pack = 0x10) = true := by decide

theorem test_R9_rl_C :
    runs (withRegs 0x00 (fun g => { g with c := 0x80 }))
      [0xCB, 0x11] 2 (fun t => t.regs.c = 0x00 && t.flags.pack = 0x90) = true := by decide

theorem test_R10_rr_D :
    runs (withRegs 0x10 (fun g => { g with d := 0x01 }))
      [0xCB, 0x1A] 2 (fun t => t.regs.d = 0x80 && t.flags.pack = 0x10) = true := by decide

theorem test_R11_sla_B :
    runs (withRegs 0x00 (fun g => { g with b := 0x80 }))
      [0xCB, 0x20] 2 (fun t => t.regs.b = 0x00 && t.flags.pack = 0x90) = true := by decide

theorem test_R12_sra_B :
    runs (withRegs 0x00 (fun g => { g with b := 0x81 }))
      [0xCB, 0x28] 2 (fun t => t.regs.b = 0xC0 && t.flags.pack = 0x10) = true := by decide

theorem test_R15_swap_A :
    runs (withRegs 0x00 (fun g => { g with a := 0xF0 }))
      [0xCB, 0x37] 2 (fun t => t.regs.a = 0x0F && t.flags.pack = 0x00) = true := by decide

theorem test_R17_srl_atHL :
    runs (State.placeBytes [0xFF] 0xC000 (withRegs 0x00 (fun g => { g with h := 0xC0 })))
      [0xCB, 0x3E] 4 (fun t => t.memRead 0xC000 = 0x7F && t.flags.pack = 0x10) = true := by decide

theorem test_R18_bit_7_H :
    runs (withRegs 0x10 (fun g => { g with h := 0x7F }))
      [0xCB, 0x7C] 2 (fun t => t.regs.h = 0x7F && t.flags.pack = 0xB0) = true := by decide

theorem test_R20_bit_0_atHL :
    runs (State.placeBytes [0x01] 0xC000 (withRegs 0x00 (fun g => { g with h := 0xC0 })))
      [0xCB, 0x46] 3 (fun t => t.memRead 0xC000 = 0x01 && t.flags.pack = 0x20) = true := by decide

theorem test_R21_res_0_A :
    runs (withRegs 0xF0 (fun g => { g with a := 0xFF }))
      [0xCB, 0x87] 2 (fun t => t.regs.a = 0xFE && t.flags.pack = 0xF0) = true := by decide

theorem test_R22_set_7_atHL :
    runs (State.placeBytes [0x01] 0xC000 (withRegs 0x00 (fun g => { g with h := 0xC0 })))
      [0xCB, 0xFE] 4 (fun t => t.memRead 0xC000 = 0x81 && t.flags.pack = 0x00) = true := by decide

theorem test_R23_set_3_at_ie :
    runs (withRegs 0x00 (fun g => { g with h := 0xFF, l := 0xFF }))
      [0xCB, 0xDE] 4 (fun t => t.ie = 0x08) = true := by decide

theorem test_J1_jp_nn :
    runs (withRegs 0x00 id)
      [0xC3, 0x00, 0x80] 4 (fun t => t.pc = 0x8000) = true := by decide

theorem test_J2_jp_NZ_not_taken :
    runs (withRegs 0x80 (fun g => { g with a := 0x00 }))
      [0xC2, 0x00, 0x80] 3 (fun t => t.pc = 0xC103) = true := by decide

theorem test_J3_jp_HL :
    runs (withRegs 0x00 (fun g => { g with h := 0x40 }))
      [0xE9] 1 (fun t => t.pc = 0x4000) = true := by decide

theorem test_J5_jr_backwards :
    runs (withRegs 0x00 id)
      [0x18, 0x80] 3 (fun t => t.pc = 0xC082) = true := by decide

theorem test_J7_jr_wraps :
    runs (start 0xFFF0)
      [0x18, 0x7F] 3 (fun t => t.pc = 0x0071) = true := by decide

theorem test_J8_jr_NZ_not_taken :
    runs (withRegs 0x80 (fun g => { g with a := 0x00 }))
      [0x20, 0x05] 2 (fun t => t.pc = 0xC102) = true := by decide

theorem test_J9_jr_NZ_taken :
    runs (withRegs 0x00 id)
      [0x20, 0x05] 3 (fun t => t.pc = 0xC107) = true := by decide

theorem test_J10_call_nn :
    runs ({ withRegs 0x00 id with sp := 0xD000 })
      [0xCD, 0x34, 0x12] 6 (fun t => t.pc = 0x1234 && t.sp = 0xCFFE && t.memRead 0xCFFF = 0xC1 && t.memRead 0xCFFE = 0x03) = true := by decide

theorem test_J11_call_Z_not_taken :
    runs ({ withRegs 0x00 id with sp := 0xD000 })
      [0xCC, 0x34, 0x12] 3 (fun t => t.pc = 0xC103 && t.sp = 0xD000) = true := by decide

theorem test_J12_ret :
    runs (State.placeBytes [0x03, 0xC1] 0xCFFE ({ withRegs 0x00 id with sp := 0xCFFE }))
      [0xC9] 4 (fun t => t.pc = 0xC103 && t.sp = 0xD000) = true := by decide

theorem test_J13_ret_Z_not_taken :
    runs (State.placeBytes [0x03, 0xC1] 0xCFFE ({ withRegs 0x00 id with sp := 0xCFFE }))
      [0xC8] 2 (fun t => t.pc = 0xC101 && t.sp = 0xCFFE) = true := by decide

theorem test_J14_ret_Z_taken :
    runs (State.placeBytes [0x03, 0xC1] 0xCFFE ({ withRegs 0x80 id with sp := 0xCFFE }))
      [0xC8] 5 (fun t => t.pc = 0xC103 && t.sp = 0xD000) = true := by decide

theorem test_J15_reti :
    runs (State.placeBytes [0x01, 0x02] 0xFFFC ({ withRegs 0x00 id with sp := 0xFFFC }))
      [0xD9] 4 (fun t => t.pc = 0x0201 && t.sp = 0xFFFE && t.ime) = true := by decide

theorem test_J16_rst_38 :
    runs { start 0x0200 with sp := 0xD000 }
      [0xFF] 4 (fun t => t.pc = 0x0038 && t.sp = 0xCFFE && t.memRead 0xCFFF = 0x02 && t.memRead 0xCFFE = 0x01) = true := by decide

theorem test_E1_nop :
    runs (start 0x0150)
      [0x00] 1 (fun t => t.pc = 0x0151) = true := by decide

theorem test_E2_ei_arms_the_delay :
    runs { start 0x0200 with ie := 1, iflag := 1 }
      [0xFB] 1 (fun t => t.ime = false && t.eiDelay = 1) = true := by decide

theorem test_E2_ime_after_the_next :
    runs { start 0x0201 with ie := 1, iflag := 1, eiDelay := 1 }
      [0x00] 1 (fun t => t.ime = true && t.pc = 0x0202) = true := by decide

theorem test_E3_di_cancels_the_delay :
    runs { start 0x0201 with ie := 1, iflag := 1, eiDelay := 1 }
      [0xF3] 1 (fun t => t.ime = false && t.eiDelay = 0) = true := by decide

theorem test_E5_halt_halts :
    runs { start 0x0201 with ie := 1, eiDelay := 1 }
      [0x76] 1 (fun t => t.ime && t.halted && t.pc = 0x0202) = true := by decide

theorem test_S4_1_halt_bug_armed :
    runs { start 0x0200 with ie := 4, iflag := 4 }
      [0x76] 1 (fun t => t.haltBug && t.halted = false && t.pc = 0x0201) = true := by decide

theorem test_S4_1_halt_bug_used :
    runs { start 0x0201 with ie := 4, iflag := 4, haltBug := true }
      [0x3C] 1 (fun t => t.regs.a = 0x01 && t.haltBug = false && t.pc = 0x0201) = true := by decide

theorem test_E7_halted_wakes_without_service :
    runs { start 0x0001 with ie := 4, iflag := 4, halted := true }
      [0x3C] 1 (fun t => t.regs.a = 0x01 && t.halted = false && t.pc = 0x0002 && t.iflag = 4) = true := by decide

theorem test_E8_stop_skips :
    runs (start 0x0300)
      [0x10, 0x00] 1 (fun t => t.pc = 0x0302) = true := by decide

theorem test_E9_stop_nop1 :
    runs { start 0x0300 with params := { Params.default with stopMode := .nop1 } }
      [0x10, 0x00] 1 (fun t => t.pc = 0x0301) = true := by decide

theorem test_E10_undefined_opcode :
    runs (start 0x4000)
      [0xD3] 1 (fun t => t.pc = 0x4001 && t.diagnostics = [{ opcode := 0xD3, address := 0x4000 }]) = true := by decide

theorem test_I1_service :
    runs { start 0x0200 with sp := 0xD000, ime := true, ie := 5, iflag := 5 }
      [0x00] 5 (fun t => t.pc = 0x0040 && t.iflag = 4 && t.ime = false && t.sp = 0xCFFE && t.memRead 0xCFFF = 0x02 && t.memRead 0xCFFE = 0x00) = true := by decide

theorem test_I2_service_loses_its_interrupt :
    runs { start 0x0200 with ime := true, ie := 1, iflag := 1 }
      [0x00] 5 (fun t => t.pc = 0x0000 && t.iflag = 1 && t.ime = false && t.ie = 2 && t.sp = 0xFFFE) = true := by decide

theorem test_I4_lower_bit_first :
    runs { start 0x0200 with sp := 0xD000, ime := true, ie := 0x1F, iflag := 0x18 }
      [0x00] 5 (fun t => t.pc = 0x0058 && t.iflag = 0x10) = true := by decide

/-- E10 under `REFUSE` (R149): the step is refused by name. -/
theorem test_undefined_opcode_refused :
    step { State.placeBytes [0xD3] 0xC100 (start 0xC100) with params := { Params.default with illegalOpcodes := .refuse } } =
      .refused (.undefinedOpcode 0xD3) := rfl

/-- The first instruction after reset, placed by the loader. -/
theorem test_first_instruction_after_reset :
    (match step (State.reset.withFetchWord 16 0x423E) with
     | .next t => decide (t.regs.a = 0x42 ∧ t.pc = 0x0002 ∧ t.clock = 8)
     | _ => false) = true := by decide

/-! ## Devices: vectors of 95_test_vectors.md -/

/-- A timer. -/
def timerAt (div : Word) (tima tma : Byte) (tac : BitVec 3) (sampled : Bool) : State :=
  { start 0xC100 with timer := { divCounter := div, tima := tima, tma := tma, tac := tac, lastSampledBit := sampled, reloadDelay := 0 } }

theorem test_T1_div_write_counts_once :
    ((timerAt 0x0080 0x10 0x00 7 true).busWrite 0xFF04 0x55).timer =
      { divCounter := 0, tima := 0x11, tma := 0, tac := 7, lastSampledBit := false, reloadDelay := 0 } := by decide

theorem test_S5_2_reload_on_the_fifth_clock :
    (List.range 6).map (fun n => let t := (timerAt 0x000F 0xFF 0x80 5 true).timerTick (n + 1); (t.timer.tima, t.timer.reloadDelay, t.iflag)) =
      [(0x00, 4, 0), (0x00, 3, 0), (0x00, 2, 0), (0x00, 1, 0), (0x80, 0, 4), (0x80, 0, 4)] := by decide

theorem test_T5_disabling_counts :
    ((timerAt 0x0008 0x20 0x00 5 true).busWrite 0xFF07 0x01).timer.tima = 0x21 ∧
    ((timerAt 0x0208 0x20 0x00 5 true).busWrite 0xFF07 0x04).timer.tima = 0x20 := by decide

theorem test_T9_tac_reads_its_unused_bits_as_ones : ((timerAt 0 0 0 5 false).busWrite 0xFF07 0xFD).busRead 0xFF07 = 0xFD := by decide

/-- The display of `POST_BOOT`, IF cleared. -/
def display : State := { State.resetPostBoot Params.default RamInit.unlisted with iflag := 0 }

theorem test_D2_D3_D4_lyc_source_edges :
    let d2 := display.busWrite 0xFF41 0x40
    let d3 := State.busWrite { d2 with iflag := 0 } 0xFF41 0x44
    let d4 := (d3.busWrite 0xFF41 0x00).busWrite 0xFF41 0x40
    d2.iflag = 2 ∧ d2.busRead 0xFF41 = 0xC6 ∧ d3.iflag = 0 ∧ d4.iflag = 2 := by decide

theorem test_D9_ly_write :
    let d := State.busWrite { display with lcd := { display.lcd with ly := 10, dot := 100, mode := .transfer, coincidence := false } } 0xFF44 0x05
    d.lcd.ly = 0 ∧ d.lcd.dot = 100 ∧ d.busRead 0xFF41 = 0x87 ∧ d.iflag = 0 := by decide

theorem test_D12_D14_pixels :
    let vram12 : Memory := [(0, 0x80)]
    let vram14 : Memory := [(0x10, 0x0F), (0x183F, 0x01)]
    (List.range 9).map (pixelAt { display.lcd with bgp := 0xE4 } vram12 0) =
      0xFFAAAAAA :: List.replicate 7 0xFFFFFFFF ++ [0xFFAAAAAA] ∧
    (List.range 6).map (pixelAt { display.lcd with bgp := 0xE4, scx := 0xFC, scy := 0x08 } vram14 0) =
      List.replicate 4 0xFFAAAAAA ++ List.replicate 2 0xFFFFFFFF := by decide

theorem test_D13_signed_tiles :
    let vram : Memory := [(0x0801, 0xFF), (0x1000, 0xFF), (0x1001, 0xFF), (0x1801, 0x80)]
    [0, 8].map (pixelAt { display.lcd with bgp := 0xE4, lcdc := 0x81 } vram 0) = [0xFF000000, 0xFF555555] := by decide

/-- The cartridge of S7: four banks, and 32 KiB of RAM; the byte at 0x4000 of bank b is b. -/
def mbc1Cart : State :=
  { start 0xC100 with params := { mbc1Params 0x10000 with rom := [(0x4000, 1), (0x8000, 2), (0xC000, 3)], eramSize := 0x8000 } }

theorem test_S7_banks :
    ([0x00, 0x02, 0x05, 0x06, 0x04, 0x20, 0xE3] : List Byte).map (fun v => (mbc1Cart.memWrite 0x2000 v).memRead 0x4000) =
      [1, 2, 1, 2, 1, 1, 3] := by decide

theorem test_M9_to_M12_ram :
    let on := mbc1Cart.memWrite 0x0000 0x1A
    let banked := ((on.memWrite 0x6000 1).memWrite 0x4000 2).memWrite 0xA000 0x33
    mbc1Cart.memRead 0xA000 = 0xFF ∧ (on.memWrite 0xA000 0x22).memRead 0xA000 = 0x22 ∧
    ((on.memWrite 0xA000 0x22).memWrite 0x1FFF 0x0B).memRead 0xA000 = 0xFF ∧ banked.eram = [(0x4000, 0x33)] := by decide

/-- M5 to M7: the boot overlay. -/
def overlay : State :=
  { start 0xC100 with bootEnabled := true,
                      params := { Params.default with bootRom := [(0, 0x31)], bootLen := 0x100, rom := [(0, 0xC3)] } }

theorem test_M5_to_M7_overlay :
    overlay.memRead 0x0000 = 0x31 ∧ (overlay.memWrite 0xFF50 0x00).memRead 0x0000 = 0x31 ∧
    (overlay.memWrite 0xFF50 0x01).memRead 0x0000 = 0xC3 ∧ overlay.memRead 0xFF50 = 0xFF := by decide

theorem test_M1_unmapped_reads :
    ([0xFEA0, 0xFF01, 0xFF4C, 0xFF7F, 0xFF10, 0xFF3F] : List Word).map (start 0xC100).memRead = List.replicate 6 0xFF := by decide

/-- M17: the CPU sees 0xFF during a transfer, except in HRAM and at 0xFF46. -/
theorem test_dma_blocks :
    let s := (State.placeBytes [0x77] 0xC000 (State.placeBytes [0x66] 0xFF80 (start 0xC100))).memWrite 0xFF46 0xC0
    s.memRead 0xC000 = 0xFF ∧ s.memRead 0xFF80 = 0x66 ∧ s.memRead 0xFF46 = 0xC0 ∧ s.tick.oam.read 0 = 0x77 := by decide

/-! ## Witnesses: for each statement with hypotheses, a state and operands that meet them -/

theorem witness_DecodeAfterEncode : [Instr.nop, .ld_A_n 0xFF, .call_nn 0xFFFF, .set_7_A].all Instr.wellFormed = true := by decide

theorem witness_EncodeAfterDecode :
    decodeFetched [0x3E, 0x42, 0x00] = .ok (.ld_A_n 0x42, [0x00]) ∧ Instr.wellFormed (.ld_A_n 0x42) = true ∧
    decode .nop1 [0x3E, 0x42, 0x00] = .ok (.ld_A_n 0x42, [0x00]) ∧
    decode .skip1 [0x10, 0x3C, 0x00] = .ok (.stop, [0x00]) ∧ Instr.wellFormed .stop = true := by decide

theorem witness_EveryOpcodeDecodesByItsLength :
    Claim.lengthOf .skip1 0xC9 = 0 + 1 ∧ Claim.lengthOf .nop1 0xCB = [(0x37 : Byte)].length + 1 ∧
    Claim.lengthOf .skip1 0xFA = [(0x34 : Byte), 0x12].length + 1 ∧
    Claim.lengthOf .skip1 0x10 = [(0x3C : Byte)].length + 1 ∧ Claim.lengthOf .nop1 0x10 = 0 + 1 := by decide

/-- A state at a boundary at which the engine fetches the given bytes, at the top of work RAM. -/
def fetching (bytes : List Byte) : State := State.placeBytes bytes 0xDFFD (start 0xDFFD)

theorem fetching_fetches (bytes : List Byte) (h : bytes ∈ [[0xC9], [0xCB, 0x37], [0xC3, 0x34, 0x12], [0xD3]]) :
    Claim.Fetches (fetching bytes) := by
  unfold Claim.Fetches Claim.AtBoundary Claim.InterruptDue Claim.StaysHalted
  fin_cases h <;> decide

theorem witness_StepRunsTheDecodedInstruction_1 :
    let s := fetching [0xC9]
    decodeFetched [s.memRead s.pc] = .ok (.ret, []) ∧ Claim.fetchedOf (s.memRead s.pc) = 1 := by decide

theorem witness_StepRunsTheDecodedInstruction_2 :
    let s := fetching [0xCB, 0x37]
    let s1 := Claim.opcodeFetched s
    decodeFetched [s.memRead s.pc, s1.tick.memRead s1.pc] = .ok (.swap_A, []) ∧ Claim.fetchedOf (s.memRead s.pc) = 2 := by decide

theorem witness_StepRunsTheDecodedInstruction_3 :
    let s := fetching [0xC3, 0x34, 0x12]
    let op := s.memRead s.pc
    let s1 := Claim.opcodeFetched s
    decodeFetched [op, s1.tick.memRead s1.pc, (Claim.wordFetched op s1).latches.hi] = .ok (.jp_nn 0x1234, []) ∧ Claim.fetchedOf op = 3 := by
  decide

theorem witness_HaltedEngineIdlesUntilPending :
    let s := { start 0xC100 with halted := true }
    let u := { start 0xC100 with halted := true, ie := 1, iflag := 1 }
    (Claim.AtBoundary s ∧ s.halted = true ∧ s.ie &&& s.iflag = 0) ∧
    (Claim.AtBoundary u ∧ u.halted = true ∧ u.ie &&& u.iflag ≠ 0 ∧ u.ime = false) := by
  unfold Claim.AtBoundary; decide

/-- A state about to service an interrupt. -/
def interrupted (sp : Word) (ie iflag : BitVec 5) : State := { start 0x0200 with sp := sp, ime := true, ie := ie, iflag := iflag }

theorem witness_InterruptService_lowest_and_highest_bit :
    (Claim.AtBoundary (interrupted 0xD000 0x1F 0x1F) ∧ Claim.InterruptDue (interrupted 0xD000 0x1F 0x1F) ∧
      (let u := Claim.pcSaved (interrupted 0xD000 0x1F 0x1F)
       (u.ie &&& u.iflag).getLsbD 0 = true)) ∧
    (Claim.AtBoundary (interrupted 0xD000 0x1F 0x10) ∧ Claim.InterruptDue (interrupted 0xD000 0x1F 0x10) ∧
      (let u := Claim.pcSaved (interrupted 0xD000 0x1F 0x10)
       (u.ie &&& u.iflag).getLsbD 4 = true ∧ ∀ j : Fin 5, j < 4 → (u.ie &&& u.iflag).getLsbD j = false)) := by
  unfold Claim.AtBoundary Claim.InterruptDue; decide

/-- I2: the push of PC's high byte overwrites IE. -/
theorem witness_InterruptService_nothing_pending :
    Claim.AtBoundary (interrupted 0x0000 1 1) ∧ Claim.InterruptDue (interrupted 0x0000 1 1) ∧
    (let u := Claim.pcSaved (interrupted 0x0000 1 1)
     u.ie &&& u.iflag = 0) := by
  unfold Claim.AtBoundary Claim.InterruptDue; decide

theorem blank_memoryOk (s : State) (h : s.vram = [] ∧ s.wram = [] ∧ s.oam = [] ∧ s.hram = [] ∧ s.eram = []) : s.MemoryOk := by
  obtain ⟨h1, h2, h3, h4, h5⟩ := h
  simp [State.MemoryOk, Memory.wf, h1, h2, h3, h4, h5]

/-- Stacks at the ends of each RAM window, across work RAM and its mirror and across the mirror and OAM. -/
theorem witness_stacks :
    ∀ sp ∈ ([0x8002, 0xA000, 0xC002, 0xE000, 0xE001, 0xFE01, 0xFEA0, 0xFF82, 0xFFFF] : List Word),
      Claim.isRam (sp - 1) ∧ Claim.isRam (sp - 2) := by
  simp [Claim.isRam]

theorem witness_RetiUndoesInterruptService :
    ∀ sp ∈ ([0x8002, 0xE000, 0xFFFF] : List Word),
      let s := interrupted sp 1 1
      Claim.AtBoundary s ∧ Claim.InterruptDue s ∧ s.MemoryOk ∧ s.dma.active = false ∧
      Claim.isRam (s.sp - 1) ∧ Claim.isRam (s.sp - 2) := by
  intro sp h
  refine ⟨⟨rfl, rfl⟩, ⟨rfl, show (1 : BitVec 5) &&& 1 ≠ 0 by decide⟩, blank_memoryOk _ ⟨rfl, rfl, rfl, rfl, rfl⟩, rfl, witness_stacks sp ?_⟩
  fin_cases h <;> decide

theorem witness_EiTakesEffect :
    ((start 0).ime = false ∧ (start 0).eiDelay = 0) ∧ ({ start 0 with eiDelay := 1 } : State).eiDelay = 1 ∧
    ({ start 0 with ime := true } : State).ime = true ∧ ({ start 0 with eiDelay := 2 } : State).eiDelay ≠ 0 := by decide

theorem witness_EiTakesEffect_other_instructions :
    Instr.nop ≠ .ei ∧ Instr.nop ≠ .di ∧ Instr.nop ≠ .reti ∧ ∃ t, exec .nop (start 0) = .next t :=
  ⟨by decide, by decide, by decide, _, rfl⟩

theorem witness_InstructionsTakeTheirCycles :
    Instr.wellFormed (.call_NZ_nn 0x1234) = true ∧ ∃ t, exec (.call_NZ_nn 0x1234) (start 0) = .next t := ⟨by decide, _, rfl⟩

theorem witness_StepIsSystemStepsToTheBoundary : (start 0xC100).inflight = .none := by decide

theorem witness_NoInstructionStops :
    (0xD3, Instr.undef_D3) ∈ Instr.undefinedOpcodes ∧
    exec .undef_D3 { start 0 with params := { Params.default with illegalOpcodes := .refuse } } = .refused (.undefinedOpcode 0xD3) :=
  ⟨by decide, rfl⟩

theorem witness_StepRefuses_rom_size :
    step { start 0xC100 with params := mbc1Params 0x4001 } = .refused (.romSize 0x4001) := rfl

/-- RAM contents with a byte at the last offset of each array. -/
def fullRam : RamInit := ⟨[(0x1FFF, 1)], [(0x1FFF, 1)], [(159, 1)], [(126, 1)], [(0x7FFF, 1)]⟩

theorem witness_ResetMeetsTheInvariant :
    fullRam.vram.wf ∧ Memory.within 0x2000 fullRam.vram ∧ fullRam.wram.wf ∧ Memory.within 0x2000 fullRam.wram ∧
    fullRam.oam.wf ∧ Memory.within 160 fullRam.oam ∧ fullRam.hram.wf ∧ Memory.within 127 fullRam.hram ∧
    fullRam.eram.wf ∧ Memory.within 0x8000 fullRam.eram := by decide

/-- A state that meets the invariant, in the middle of a frame and with a transfer active. -/
def busy : State :=
  { State.placeBytes [0x00] 0xC100 (start 0xC100) with
    lcd := { display.lcd with ly := 143, dot := 252, mode := .hblank, coincidence := false }
    dma := { active := true, source := 0xC000, index := 159, acc := 0, reg := 0xC0 }
    eiDelay := 1 }

theorem witness_StepKeepsTheInvariant : busy.Ok ∧ ∃ t, step busy = .next t := by
  refine ⟨⟨⟨?_, ?_, ?_, ⟨?_, ?_, ?_, ?_⟩, ?_, ?_, ?_⟩, ?_, rfl⟩, _, rfl⟩
  · unfold State.MemoryOk; decide
  · unfold State.EngineOk; decide
  · unfold Timer.Ok; decide
  · decide
  · decide
  · decide
  · unfold FrameOk; decide
  · unfold Dma.Ok; decide
  · unfold Mbc1.Ok; decide
  · exact fun f h => nomatch (show f ∈ ([] : List FrameBuffer) from h)
  · unfold Lcd.ModeOk; decide

theorem witness_StepsNeverUndoTheseThings : (start 0xC100).bootEnabled = false ∧ ∃ t, step (start 0xC100) = .next t :=
  ⟨by decide, _, rfl⟩

theorem witness_PopRestoresWhatPushStored :
    ∀ sp ∈ ([0xC002, 0xE000, 0xFF82] : List Word),
      let s := { start 0 with sp := sp }
      s.MemoryOk ∧ s.dma.active = false ∧ Claim.isRam (s.sp - 1) ∧ Claim.isRam (s.sp - 2) := by
  intro sp h
  refine ⟨blank_memoryOk _ ⟨rfl, rfl, rfl, rfl, rfl⟩, rfl, witness_stacks sp ?_⟩
  fin_cases h <;> decide

/-- R22, R194: PUSH BC with 0x0F in C, then POP AF: F's low nibble is 0. -/
theorem test_pop_AF_of_pushed_BC :
    (match exec .push_BC { start 0 with sp := 0xE000, regs := { (start 0).regs with b := 0x12, c := 0x0F } } with
     | .next t => match exec .pop_AF t with
       | .next u => decide (u.af = 0x1200 ∧ u.sp = 0xE000)
       | _ => false
     | _ => false) = true := by decide

theorem witness_DaaMakesBcdArithmeticDecimal : Claim.isBcd 0x00 ∧ Claim.isBcd 0x99 := by unfold Claim.isBcd; decide

theorem witness_AccumulatorRotates :
    (AccRot.rra, CbOp.rr, 0x1F) ∈ [(AccRot.rlca, CbOp.rlc, 0x07), (.rrca, .rrc, 0x0F), (.rla, .rl, 0x17), (.rra, .rr, 0x1F)] := by
  decide

/-- JP cc, JR cc, CALL cc, RET cc: a state in which every condition holds, and one in which it does not. -/
theorem witness_conditions :
    (∀ cc ∈ [Cond.nz, .nc], Claim.holds cc ⟨false, false, false, false⟩ ∧ ¬ Claim.holds cc ⟨true, false, false, true⟩) ∧
    (∀ cc ∈ [Cond.z, .c], Claim.holds cc ⟨true, false, false, true⟩ ∧ ¬ Claim.holds cc ⟨false, false, false, false⟩) := by
  simp [Claim.holds]

theorem witness_EngineControl :
    (start 0).params.stopMode = .skip1 ∧
    ({ start 0 with params := { Params.default with stopMode := .nop1 } } : State).params.stopMode = .nop1 := by decide

theorem witness_UndefinedOpcodes :
    (0xD3, Instr.undef_D3) ∈ Instr.undefinedOpcodes ∧ (fetching [0xD3]).params.illegalOpcodes = .nop ∧
    (fetching [0xD3]).memRead (fetching [0xD3]).pc = 0xD3 ∧
    ({ start 0 with params := { Params.default with illegalOpcodes := .refuse } } : State).params.illegalOpcodes = .refuse := by decide

theorem witness_CbByte :
    let s := State.placeBytes [0xFF] 0xC100 (start 0xC100)
    decodeFetched [0xCB, s.tick.memRead s.pc] = .ok (.set_7_A, []) := by decide

theorem witness_OnlyNamedRegistersAndFlagsChange :
    Instr.wellFormed (.ld_A_n 0x42) = true ∧ (∃ t, exec (.ld_A_n 0x42) (start 0) = .next t) ∧
    R8.b ∉ Claim.writesRegs (.ld_A_n 0x42) ∧ Claim.writesFlags (.ld_A_n 0x42) = false := ⟨by decide, ⟨_, rfl⟩, by decide, by decide⟩

theorem witness_EngineRegistersChangeOnlyWhereNamed :
    Instr.wellFormed .cpl = true ∧ (∃ t, exec .cpl (start 0) = .next t) ∧ Claim.writesSp .cpl = false ∧ Claim.writesPc .cpl = false ∧
    Instr.cpl ≠ .di ∧ Instr.cpl ≠ .ei ∧ Instr.cpl ≠ .reti ∧ Instr.cpl ≠ .halt ∧ (∀ op, (op, Instr.cpl) ∉ Instr.undefinedOpcodes) ∧
    Claim.stores .cpl (start 0) = [] :=
  ⟨by decide, ⟨_, rfl⟩, by decide, by decide, by decide, by decide, by decide, by decide, by simp [Instr.undefinedOpcodes], by decide⟩

/-- A store at 0xC000: bytes at the ends of the RAM windows, none of them the stored one or its mirror. -/
theorem witness_OnlyStoredBytesOfMemoryChange :
    Instr.wellFormed (.ld_atnn_A 0xC000) = true ∧ (start 0).MemoryOk ∧ (∃ t, exec (.ld_atnn_A 0xC000) (start 0) = .next t) ∧
    (∀ a ∈ ([0x8000, 0x9FFF, 0xC001, 0xDFFF, 0xE001, 0xFDFF, 0xFE00, 0xFE9F, 0xFF80, 0xFFFE] : List Word),
      Claim.isRam a ∧ (∀ b ∈ Claim.stores (.ld_atnn_A 0xC000) (start 0), ¬ Claim.sameByte a b) ∧
      (start 0).dma.active = false ∧ (0xFF46 : Word) ∉ Claim.stores (.ld_atnn_A 0xC000) (start 0)) := by
  refine ⟨by decide, blank_memoryOk _ ⟨rfl, rfl, rfl, rfl, rfl⟩, ⟨_, rfl⟩, ?_⟩
  simp [Claim.isRam, Claim.sameByte, Claim.stores, encodeFetched, start, State.reset, State.resetFor, State.resetBoot, mkWord, loByte,
    hiByte]

theorem witness_OnlyStoredBytes_eram :
    ∀ b ∈ Claim.stores (.ld_atnn_A 0xA000) mbc1Cart,
      ¬ (0xA000 ≤ b.toNat ∧ b.toNat ≤ 0xBFFF ∧ mbc1Cart.eramOffset b.toNat = some 1) := by
  simp [Claim.stores, encodeFetched, State.eramOffset, mkWord, loByte, hiByte, mbc1Cart, mbc1Params, start, State.reset, State.resetFor,
    State.resetBoot, Params.default]

theorem witness_TickLeavesTheEngineAlone :
    (start 0).dma.active = false ∧ (0xFDFF : Word).toNat ≤ 0xFDFF ∧ 0xFF80 ≤ (0xFF80 : Word).toNat := by decide

/-- A boundary value of each row of the decode, and the overlay's last byte. -/
theorem witness_BusDecodesRowByRow :
    (busy.dma.active = true ∧ (0xFF7F : Word) ≠ 0xFF46 ∧ ¬ 0xFF80 ≤ (0xFF7F : Word).toNat) ∧
    (overlay.bootEnabled = true ∧ 0xFF < overlay.params.bootLen ∧ 0xFF < 0x100) ∧
    ((0x7FFF : Word).toNat ≤ 0x7FFF ∧ ¬ ((0x7FFF : Word).toNat < overlay.params.bootLen)) ∧
    (0x8000 ≤ (0x9FFF : Word).toNat ∧ (0x9FFF : Word).toNat ≤ 0x9FFF) ∧ (0xA000 ≤ (0xBFFF : Word).toNat ∧ (0xBFFF : Word).toNat ≤ 0xBFFF) ∧
    (0xC000 ≤ (0xDFFF : Word).toNat ∧ (0xDFFF : Word).toNat ≤ 0xDFFF) ∧ (0xE000 ≤ (0xFDFF : Word).toNat ∧ (0xFDFF : Word).toNat ≤ 0xFDFF) ∧
    (0xFE00 ≤ (0xFE9F : Word).toNat ∧ (0xFE9F : Word).toNat ≤ 0xFE9F) ∧ (0xFF80 ≤ (0xFFFE : Word).toNat ∧ (0xFFFE : Word).toNat ≤ 0xFFFE) ∧
    (0xFEA0 ≤ (0xFEFF : Word).toNat ∧ (0xFEFF : Word).toNat ≤ 0xFEFF) ∧ (0xFF51 ≤ (0xFF7F : Word).toNat ∧ (0xFF7F : Word).toNat ≤ 0xFF7F) := by
  decide

theorem witness_RamReadsWhatWasStored :
    (start 0).MemoryOk ∧
    (∀ a ∈ ([0x8000, 0x9FFF, 0xC000, 0xDDFF, 0xE000, 0xFDFF, 0xFE00, 0xFE9F, 0xFF80, 0xFFFE] : List Word), Claim.isRam a) ∧
    Claim.sameByte 0xDDFF 0xFDFF ∧ Claim.sameByte 0x8000 0x8000 ∧ ¬ Claim.sameByte 0x9FFF 0xFDFF ∧ ¬ Claim.sameByte 0xDE00 0xFE00 := by
  refine ⟨blank_memoryOk _ ⟨rfl, rfl, rfl, rfl, rfl⟩, ?_⟩
  simp [Claim.isRam, Claim.sameByte]

theorem witness_Cartridges :
    ((start 0).params.accepted = true ∧ (start 0).params.cartKind = .romOnly) ∧
    (mbc1Cart.params.accepted = true ∧ mbc1Cart.params.cartKind = .mbc1) ∧
    ((0x3FFF < 0x4000) ∧ (0x4000 ≤ 0x7FFF)) ∧ ((0x1FFF < 0x2000) ∧ (0x2000 ≤ 0x3FFF) ∧ (0x4000 ≤ 0x5FFF) ∧ 0x6000 ≤ 0x6000) := by decide

theorem witness_OamDmaCopiesAByteATick :
    (busy.dma.active = true ∧ busy.dma.acc = 0 ∧ busy.dma.index < 160) ∧ (start 0).dma.active = false := by decide

theorem witness_OamDmaCopiesThePage :
    (start 0).MemoryOk ∧ (∀ v ∈ ([0x00, 0xDF, 0xFE] : List Byte), v.toNat ≤ 0xFE) :=
  ⟨blank_memoryOk _ ⟨rfl, rfl, rfl, rfl, rfl⟩, by decide⟩

theorem witness_TimerRegistersReadAndWrite : (timerAt 0x0080 0x10 0x00 7 true).timer.Ok := by unfold Timer.Ok; decide

theorem witness_TimerCountsItsPeriod :
    let t := (timerAt 0x0000 0xFE 0x00 5 false).timer
    t.Ok ∧ t.tac.getLsbD 2 = true ∧ t.reloadDelay = 0 ∧
    t.tima.toNat + ((t.divCounter.toNat + 31) / Claim.timerPeriod t.tac - t.divCounter.toNat / Claim.timerPeriod t.tac) < 256 := by
  unfold Timer.Ok; decide

theorem witness_TimerReloads :
    let t := (timerAt 0x000F 0xFF 0x80 5 true).timer
    t.Ok ∧ t.tima = 0xFF ∧ t.reloadDelay = 0 ∧ t.sampled = true ∧ Timer.sampled { t with divCounter := t.divCounter + 1 } = false := by
  unfold Timer.Ok; decide

theorem display_range : display.lcd.RangeOk := by unfold Lcd.RangeOk FrameOk; decide

/-- The statements about dots with the display enabled. -/
theorem witness_Dots : display.lcd.RangeOk ∧ display.lcd.ModeOk ∧ display.lcd.enabled = true :=
  ⟨display_range, by unfold Lcd.ModeOk; decide, by decide⟩

/-- The last dot of the last line. -/
theorem witness_Dots_last :
    let d := { display.lcd with ly := 153, dot := 455, mode := .vblank, coincidence := false }
    d.RangeOk ∧ d.ModeOk ∧ d.enabled = true :=
  ⟨by unfold Lcd.RangeOk FrameOk; decide, by unfold Lcd.ModeOk; decide, by decide⟩

theorem witness_DisabledDisplay : (start 0).lcd.enabled = false := by decide

theorem witness_Renderer :
    FrameOk display.lcd.frame ∧ (143 : Byte).toNat < 144 ∧ display.lcd.lcdc.getLsbD 0 = true ∧
    ({ display.lcd with lcdc := 0x90 } : Lcd).lcdc.getLsbD 0 = false := by
  unfold FrameOk; decide

end Sys2Proof.Tests
end

section
/-! PROOFS. The register pairs and register F (R21, R22, R23). A pair is the word of its two bytes, so what an accessor reads back
is `mkWord_hiByte_loByte`; F is read a bit at a time. -/
namespace Sys2Proof

/-- A mask acts on each byte of a word by itself. -/
theorem mkWord_and_mkWord (a b c d : Byte) : mkWord a b &&& mkWord c d = mkWord (a &&& c) (b &&& d) :=
  BitVec.and_append

/-- The low byte alone masked, as a write of AF masks it. -/
theorem mkWord_hiByte_and_loByte (v : Word) (m : Byte) : mkWord (hiByte v) (loByte v &&& m) = v &&& mkWord 0xFF m := by
  have hall : hiByte v &&& 0xFF = hiByte v := BitVec.and_allOnes
  calc mkWord (hiByte v) (loByte v &&& m)
      = mkWord (hiByte v &&& 0xFF) (loByte v &&& m) := by rw [hall]
    _ = mkWord (hiByte v) (loByte v) &&& mkWord 0xFF m := (mkWord_and_mkWord _ _ _ _).symm
    _ = v &&& mkWord 0xFF m := by rw [mkWord_hiByte_loByte]

namespace Machine

/-! ## Register F -/

/-- F as a number: a finite fact about its 16 values (R22). -/
theorem Flags.toNat_pack (f : Flags) :
    f.pack.toNat = f.z.toNat * 128 + f.n.toNat * 64 + f.h.toNat * 32 + f.c.toNat * 16 := by
  obtain ⟨z, n, h, c⟩ := f
  revert z n h c
  decide

/-- F bit by bit, from bit 0: zeros in the low nibble, then C, H, N, Z (R22). -/
theorem Flags.getLsbD_pack (f : Flags) {i : Nat} (hi : i < 8) :
    f.pack.getLsbD i = [false, false, false, false, f.c, f.h, f.n, f.z].getD i false := by
  obtain ⟨z, n, h, c⟩ := f
  revert z n h c i
  decide

@[simp] theorem Flags.unpack_pack (f : Flags) : Flags.unpack f.pack = f := by
  unfold Flags.unpack
  simp only [Flags.getLsbD_pack, Nat.reduceLT, List.getD_cons_succ, List.getD_cons_zero]

/-- Writing F clears the low nibble (R22, R23). -/
@[simp] theorem Flags.pack_unpack (b : Byte) : (Flags.unpack b).pack = b &&& 0xF0 := by
  refine BitVec.eq_of_getLsbD_eq fun i hi => ?_
  rw [Flags.getLsbD_pack _ hi, BitVec.getLsbD_and]
  interval_cases i <;> simp [Flags.unpack]

/-! ## Pairs -/

@[simp] theorem setPair_pair (s : State) (p : Pair) (v : Word) : (s.setPair p v).pair p = v := by
  cases p with
  | sp => rfl
  | bc | de | hl => exact mkWord_hiByte_loByte v

theorem setStackPair_stackPair_of_ne_af (s : State) {p : StackPair} (v : Word) (hp : p ≠ .af) :
    (s.setStackPair p v).stackPair p = v := by
  cases p with
  | af => exact absurd rfl hp
  | bc | de | hl => exact mkWord_hiByte_loByte v

/-- Writing AF clears F's low nibble (R22). -/
theorem setStackPair_af_af (s : State) (v : Word) : (s.setStackPair .af v).stackPair .af = v &&& 0xFFF0 := by
  calc (s.setStackPair .af v).stackPair .af
      = mkWord (hiByte v) (Flags.unpack (loByte v)).pack := rfl
    _ = mkWord (hiByte v) (loByte v &&& 0xF0) := by rw [Flags.pack_unpack]
    _ = v &&& 0xFFF0 := mkWord_hiByte_and_loByte v 0xF0

@[simp] theorem setStackPair_stackPair (s : State) (p : StackPair) (v : Word) :
    (s.setStackPair p v).stackPair p = if p = .af then v &&& 0xFFF0 else v := by
  split
  case isTrue h => subst h; exact setStackPair_af_af s v
  case isFalse h => exact setStackPair_stackPair_of_ne_af s v h

/-- Settles O51: the round trips of the accessors, each pair as the word of its two bytes, and the two ways between F and the flags. -/
theorem pairsAndFlagsPackAsTheRulesSay : Obligations.PairsAndFlagsPackAsTheRulesSay := fun s v b p q =>
  ⟨setPair_pair s p v, setStackPair_stackPair s q v, toNat_mkWord .., toNat_mkWord .., toNat_mkWord .., toNat_mkWord ..,
    Flags.toNat_pack s.flags, Flags.pack_unpack b, Flags.unpack_pack s.flags⟩

end Machine
end Sys2Proof
end

section
/-! PROOFS. RAM behind the bus (R65, R67, R68, R69, R77). Each RAM address reaches one cell, an array and an offset in it; a bus read
of RAM is a read of that cell and a bus write a write of it, and two addresses reach one cell exactly when they name the same byte. -/
namespace Sys2Proof.Machine

/-! ## The arrays of RAM -/

/-- The memory arrays that the RAM windows of the bus reach. -/
inductive RamArray where
  | vram | wram | oam | hram
  deriving DecidableEq

/-- The first address of an array's window; work RAM's mirror is no window of its own. -/
def RamArray.base : RamArray → Nat
  | .vram => 0x8000
  | .wram => 0xC000
  | .oam => 0xFE00
  | .hram => 0xFF80

def State.ram (s : State) : RamArray → Memory
  | .vram => s.vram
  | .wram => s.wram
  | .oam => s.oam
  | .hram => s.hram

def State.setRam (s : State) (r : RamArray) (m : Memory) : State :=
  match r with
  | .vram => { s with vram := m }
  | .wram => { s with wram := m }
  | .oam => { s with oam := m }
  | .hram => { s with hram := m }

@[simp] theorem setRam_ram (s : State) (r q : RamArray) (m : Memory) :
    (s.setRam r m).ram q = if r = q then m else s.ram q := by
  cases r <;> cases q <;> rfl

theorem State.MemoryOk.ram_wf {s : State} (h : s.MemoryOk) (r : RamArray) : (s.ram r).wf := by
  obtain ⟨⟨hvram, -⟩, ⟨hwram, -⟩, ⟨hoam, -⟩, ⟨hhram, -⟩, -⟩ := h
  cases r with
  | vram => exact hvram
  | wram => exact hwram
  | oam => exact hoam
  | hram => exact hhram

/-! ## Cells -/

def State.readCell (s : State) (c : RamArray × Nat) : Byte := (s.ram c.1).read c.2

def State.writeCell (s : State) (c : RamArray × Nat) (v : Byte) : State := s.setRam c.1 ((s.ram c.1).write c.2 v)

theorem writeCell_readCell {s : State} (hs : s.MemoryOk) (c d : RamArray × Nat) (v : Byte) :
    (s.writeCell c v).readCell d = if c = d then v else s.readCell d := by
  obtain ⟨r, i⟩ := c
  obtain ⟨q, j⟩ := d
  by_cases hrq : r = q
  · subst hrq
    simp [State.readCell, State.writeCell, Memory.read_write (hs.ram_wf r)]
  · simp [State.readCell, State.writeCell, hrq]

/-! ## The cell of an address -/

/-- The cell a RAM address reaches, row by row of R62; work RAM's mirror reaches work RAM (R68). -/
def ramCell (a : Word) : RamArray × Nat :=
  if a.toNat ≤ 0x9FFF then (.vram, a.toNat - 0x8000)
  else if a.toNat ≤ 0xDFFF then (.wram, a.toNat - 0xC000)
  else if a.toNat ≤ 0xFDFF then (.wram, a.toNat - 0xE000)
  else if a.toNat ≤ 0xFE9F then (.oam, a.toNat - 0xFE00)
  else (.hram, a.toNat - 0xFF80)

theorem ramCell_vram {a : Word} (h : a.toNat ≤ 0x9FFF) : ramCell a = (.vram, a.toNat - 0x8000) := if_pos h

theorem ramCell_wram {a : Word} (h : 0xC000 ≤ a.toNat) (h' : a.toNat ≤ 0xDFFF) : ramCell a = (.wram, a.toNat - 0xC000) := by
  rw [ramCell, if_neg (by omega), if_pos h']

theorem ramCell_echo {a : Word} (h : 0xE000 ≤ a.toNat) (h' : a.toNat ≤ 0xFDFF) : ramCell a = (.wram, a.toNat - 0xE000) := by
  rw [ramCell, if_neg (by omega), if_neg (by omega), if_pos h']

theorem ramCell_oam {a : Word} (h : 0xFE00 ≤ a.toNat) (h' : a.toNat ≤ 0xFE9F) : ramCell a = (.oam, a.toNat - 0xFE00) := by
  rw [ramCell, if_neg (by omega), if_neg (by omega), if_neg (by omega), if_pos h']

theorem ramCell_hram {a : Word} (h : 0xFF80 ≤ a.toNat) : ramCell a = (.hram, a.toNat - 0xFF80) := by
  rw [ramCell, if_neg (by omega), if_neg (by omega), if_neg (by omega), if_neg (by omega)]

/-- Work RAM and its mirror, 0x2000 bytes apart, in one equation. -/
theorem ramCell_work {a : Word} (h : 0xC000 ≤ a.toNat) (h' : a.toNat ≤ 0xFDFF) : ramCell a = (.wram, a.toNat % 0x2000) := by
  by_cases hw : a.toNat ≤ 0xDFFF
  · rw [ramCell_wram h hw, show a.toNat - 0xC000 = a.toNat % 0x2000 by omega]
  · rw [ramCell_echo (by omega) h', show a.toNat - 0xE000 = a.toNat % 0x2000 by omega]

/-- The five windows of R62 that reach RAM. -/
theorem isRam_windows {a : Word} (ha : Claim.isRam a) :
    (0x8000 ≤ a.toNat ∧ a.toNat ≤ 0x9FFF) ∨ (0xC000 ≤ a.toNat ∧ a.toNat ≤ 0xDFFF) ∨ (0xE000 ≤ a.toNat ∧ a.toNat ≤ 0xFDFF) ∨
    (0xFE00 ≤ a.toNat ∧ a.toNat ≤ 0xFE9F) ∨ (0xFF80 ≤ a.toNat ∧ a.toNat ≤ 0xFFFE) := by
  unfold Claim.isRam at ha
  omega

/-- The address of the same byte outside work RAM's mirror. -/
def unmirrored (a : Word) : Nat := if 0xE000 ≤ a.toNat ∧ a.toNat ≤ 0xFDFF then a.toNat - 0x2000 else a.toNat

theorem sameByte_of_unmirrored_eq {a b : Word} (h : unmirrored a = unmirrored b) : Claim.sameByte a b := by
  unfold unmirrored at h
  rw [Claim.sameByte, ← BitVec.toNat_inj]
  split at h <;> split at h <;> omega

/-- A cell names its byte: its address is the one it was found for, but for the mirror. -/
theorem base_add_ramCell {a : Word} (ha : Claim.isRam a) : (ramCell a).1.base + (ramCell a).2 = unmirrored a := by
  obtain ⟨h, h'⟩ | ⟨h, h'⟩ | ⟨h, h'⟩ | ⟨h, h'⟩ | ⟨h, h'⟩ := isRam_windows ha
  · rw [ramCell_vram h', RamArray.base, unmirrored, if_neg (by omega)]; omega
  · rw [ramCell_wram h h', RamArray.base, unmirrored, if_neg (by omega)]; omega
  · rw [ramCell_echo h h', RamArray.base, unmirrored, if_pos ⟨h, h'⟩]; omega
  · rw [ramCell_oam h h', RamArray.base, unmirrored, if_neg (by omega)]; omega
  · rw [ramCell_hram h, RamArray.base, unmirrored, if_neg (by omega)]; omega

/-- RAM addresses reach one cell exactly when they are one byte: equal, or mirrors (R68). -/
theorem ramCell_eq_iff_sameByte {a b : Word} (ha : Claim.isRam a) (hb : Claim.isRam b) :
    ramCell a = ramCell b ↔ Claim.sameByte a b := by
  constructor
  · intro h
    exact sameByte_of_unmirrored_eq (by rw [← base_add_ramCell ha, ← base_add_ramCell hb, h])
  · rintro (rfl | ⟨hla, hua, hlb, hub, hmod⟩)
    · rfl
    · rw [ramCell_work hla hua, ramCell_work hlb hub, hmod]

/-! ## The bus on RAM -/

theorem busRead_eq_readCell (s : State) {a : Word} (ha : Claim.isRam a) : s.busRead a = s.readCell (ramCell a) := by
  obtain ⟨h, h'⟩ | ⟨h, h'⟩ | ⟨h, h'⟩ | ⟨h, h'⟩ | ⟨h, h'⟩ := isRam_windows ha
  · rw [busRead_vram s h h', ramCell_vram h']; rfl
  · rw [busRead_wram s h h', ramCell_wram h h']; rfl
  · rw [busRead_echo s h h', ramCell_echo h h']; rfl
  · rw [busRead_oam s h h', ramCell_oam h h']; rfl
  · rw [busRead_hram s h h', ramCell_hram h]; rfl

theorem busWrite_eq_writeCell (s : State) {a : Word} (v : Byte) (ha : Claim.isRam a) :
    s.busWrite a v = s.writeCell (ramCell a) v := by
  obtain ⟨h, h'⟩ | ⟨h, h'⟩ | ⟨h, h'⟩ | ⟨h, h'⟩ | ⟨h, h'⟩ := isRam_windows ha
  · rw [busWrite_vram s v h h', ramCell_vram h']; rfl
  · rw [busWrite_wram s v h h', ramCell_wram h h']; rfl
  · rw [busWrite_echo s v h h', ramCell_echo h h']; rfl
  · rw [busWrite_oam s v h h', ramCell_oam h h']; rfl
  · rw [busWrite_hram s v h h', ramCell_hram h]; rfl

theorem busWrite_busRead_ram {s : State} (hs : s.MemoryOk) {a b : Word} (v : Byte) (ha : Claim.isRam a) (hb : Claim.isRam b) :
    (s.busWrite a v).busRead b = if ramCell a = ramCell b then v else s.busRead b := by
  rw [busRead_eq_readCell _ hb, busWrite_eq_writeCell s v ha, writeCell_readCell hs, busRead_eq_readCell s hb]

/-- Settles O46: its two clauses are the two branches of a cell's read after a write. -/
theorem ramReadsWhatWasStored : Obligations.RamReadsWhatWasStored := by
  intro s a b v hs ha hb
  rw [busWrite_busRead_ram hs v ha hb, ← ramCell_eq_iff_sameByte ha hb]
  exact ⟨fun h => if_pos h, fun h => if_neg h⟩

end Sys2Proof.Machine
end

section
/-! PROOFS. Rules that serve every family of instructions: what shows an instruction's whole encoding (R110, R111), what an
instruction does whose work is the one M-cycle after its last fetch (R135), and two facts about operands. -/
namespace Sys2Proof.Machine

/-! ## Encodings -/

/-- Of any instruction but STOP the fetched bytes are the whole encoding, under both modes of STOP (R111). -/
theorem encodedAs_of_fetched {i : Instr} {op : Byte} {rest : List Byte} (hop : op ≠ 0x10)
    (hdecode : decodeFetched (op :: rest) = .ok (i, [])) (hencode : encodeFetched i = op :: rest) :
    Claim.EncodedAs i (op :: rest) := by
  intro mode ignored
  refine ⟨decode_of_fetched mode hdecode hop, ?_⟩
  rw [encode, hencode, List.headD_cons, ignoredBytes_of_ne mode hop, List.replicate_zero, List.append_nil]

/-- A word operand follows its opcode low byte first (R111). -/
theorem encodedAs_of_word {i : Instr} {op : Byte} {nn : Word} (hcb : op ≠ 0xCB) (hop : op ≠ 0x10) (hlen : fetchedLength op = 3)
    (hbase : decodeBase op 0 nn = i) (hencode : encodeFetched i = [op, loByte nn, hiByte nn]) :
    Claim.EncodedAs i [op, loByte nn, hiByte nn] := by
  refine encodedAs_of_fetched hop ?_ hencode
  rw [decode_three hcb hlen, mkWord_hiByte_loByte, hbase]

/-! ## Work after the last fetch -/

/-- The M-cycle of the last fetch ends with a tick, and the work follows it. -/
theorem exec_of_idle_then {i : Instr} {m : MicroOp} {s : State} (hi : exec i s = .next (runSchedule [.idle, m] s)) :
    exec i s = .next (m.run s.tick) := by
  rw [hi, runSchedule_idle, runSchedule_one]

/-! ## Operands -/

/-- The addresses 0xFF00 + v of the LDH forms (R171 to R174). -/
theorem mkWord_ff (v : Byte) : mkWord 0xFF v = 0xFF00 + v.setWidth 16 := by
  apply BitVec.eq_of_toNat_eq
  have hv := v.isLt
  rw [toNat_mkWord, BitVec.toNat_add, BitVec.toNat_setWidth, show (0xFF : Byte).toNat = 0xFF from rfl,
    show (0xFF00 : Word).toNat = 0xFF00 from rfl]
  omega

/-- A write of HL, over a register file that is known. -/
theorem setHl_of_regs {t : State} {g : Regs} (h : t.regs = g) (v : Word) :
    t.setHl v = { t with regs := { g with h := hiByte v, l := loByte v } } := by
  subst h
  rfl

/-- A write of A and then of HL, over a register file that is known. -/
theorem setReg_a_setHl_of_regs {t : State} {g : Regs} (h : t.regs = g) (v : Byte) (w : Word) :
    (t.setReg .a v).setHl w = { t with regs := { g with a := v, h := hiByte w, l := loByte w } } := by
  subst h
  rfl

end Sys2Proof.Machine
end

section
/-! PROOFS. The 8-bit loads (41_load8.md). A register load does its work in the M-cycle of the last fetch; a load from memory or a
store does it in the next one, so one tick comes before its bus access, and that tick leaves the registers that name the operand. -/
namespace Sys2Proof.Machine

/-! ## Encodings -/

theorem ldRR_encodedAs (dst r : R8) :
    Claim.EncodedAs (.ldRR dst r) [Claim.opcode (0b01000000 + 8 * Claim.rField dst + Claim.rField r)] := by
  cases dst <;> cases r <;> exact encodedAs_of_fetched (by decide) rfl rfl

theorem ldRN_encodedAs (dst : R8) (n : Byte) :
    Claim.EncodedAs (.ldRN dst n) [Claim.opcode (0b00000110 + 8 * Claim.rField dst), n] := by
  cases dst <;> exact encodedAs_of_fetched (by decide) rfl rfl

theorem ldRHl_encodedAs (dst : R8) : Claim.EncodedAs (.ldRHl dst) [Claim.opcode (0b01000110 + 8 * Claim.rField dst)] := by
  cases dst <;> exact encodedAs_of_fetched (by decide) rfl rfl

theorem ldHlR_encodedAs (r : R8) : Claim.EncodedAs (.ldHlR r) [Claim.opcode (0b01110000 + Claim.rField r)] := by
  cases r <;> exact encodedAs_of_fetched (by decide) rfl rfl

theorem ld_A_atnn_encodedAs (nn : Word) : Claim.EncodedAs (.ld_A_atnn nn) [0xFA, loByte nn, hiByte nn] :=
  encodedAs_of_word (by decide) (by decide) rfl rfl rfl

theorem ld_atnn_A_encodedAs (nn : Word) : Claim.EncodedAs (.ld_atnn_A nn) [0xEA, loByte nn, hiByte nn] :=
  encodedAs_of_word (by decide) (by decide) rfl rfl rfl

/-! ## Schedules of the register families -/

theorem exec_ldRR (dst r : R8) (s : State) : exec (.ldRR dst r) s = .next (runSchedule [.ldRR dst r] s) := by
  cases dst <;> cases r <;> rfl

theorem exec_ldRN (dst : R8) (n : Byte) (s : State) : exec (.ldRN dst n) s = .next (runSchedule [.ldRN dst n] s) := by
  cases dst <;> rfl

theorem exec_ldRHl (dst : R8) (s : State) : exec (.ldRHl dst) s = .next (runSchedule [.idle, .load dst .hl] s) := by
  cases dst <;> rfl

theorem exec_ldHlR (r : R8) (s : State) : exec (.ldHlR r) s = .next (runSchedule [.idle, .store .hl r] s) := by
  cases r <;> rfl

/-! ## What the schedules of memory loads and stores come to -/

section
variable {i : Instr} {s : State}

theorem exec_of_load (dst : R8) (a : Addr) (hi : exec i s = .next (runSchedule [.idle, .load dst a] s)) :
    exec i s = .next (s.tick.setReg dst (s.tick.memRead (s.address a))) := by
  rw [exec_of_idle_then hi, MicroOp.run, tick_address]

theorem exec_of_store (a : Addr) (r : R8) (hi : exec i s = .next (runSchedule [.idle, .store a r] s)) :
    exec i s = .next (s.tick.memWrite (s.address a) (s.reg r)) := by
  rw [exec_of_idle_then hi, MicroOp.run, tick_address, tick_reg]

theorem exec_of_storeN (a : Addr) (n : Byte) (hi : exec i s = .next (runSchedule [.idle, .storeN a n] s)) :
    exec i s = .next (s.tick.memWrite (s.address a) n) := by
  rw [exec_of_idle_then hi, MicroOp.run, tick_address]

end

theorem exec_ld_A_atHLinc_eq (s : State) : exec .ld_A_atHLinc s =
    .next { s.tick with regs := { s.regs with a := s.tick.memRead s.hl, h := hiByte (s.hl + 1), l := loByte (s.hl + 1) } } := by
  rw [exec_of_idle_then (m := .loadHlInc) rfl, MicroOp.run, tick_hl, setReg_a_setHl_of_regs (tick_regs s)]

theorem exec_ld_A_atHLdec_eq (s : State) : exec .ld_A_atHLdec s =
    .next { s.tick with regs := { s.regs with a := s.tick.memRead s.hl, h := hiByte (s.hl - 1), l := loByte (s.hl - 1) } } := by
  rw [exec_of_idle_then (m := .loadHlDec) rfl, MicroOp.run, tick_hl, setReg_a_setHl_of_regs (tick_regs s)]

theorem exec_ld_atHLinc_A_eq (s : State) : exec .ld_atHLinc_A s =
    .next { s.tick.memWrite s.hl s.regs.a with regs := { s.regs with h := hiByte (s.hl + 1), l := loByte (s.hl + 1) } } := by
  rw [exec_of_idle_then (m := .storeHlInc) rfl, MicroOp.run, tick_hl, tick_regs,
    setHl_of_regs ((memWrite_regs ..).trans (tick_regs s))]

theorem exec_ld_atHLdec_A_eq (s : State) : exec .ld_atHLdec_A s =
    .next { s.tick.memWrite s.hl s.regs.a with regs := { s.regs with h := hiByte (s.hl - 1), l := loByte (s.hl - 1) } } := by
  rw [exec_of_idle_then (m := .storeHlDec) rfl, MicroOp.run, tick_hl, tick_regs,
    setHl_of_regs ((memWrite_regs ..).trans (tick_regs s))]

/-! ## The obligations -/

/-- Settles O18: the one M-cycle of either form is the write of the destination register. -/
theorem registerLoadsWriteOneRegister : Obligations.RegisterLoadsWriteOneRegister := by
  intro s dst r n
  refine ⟨ldRR_encodedAs dst r, ldRN_encodedAs dst n, ⟨exec_ldRR dst r s, exec_ldRN dst n s⟩, fun v q => ?_, fun v => rfl⟩
  rw [setReg_reg]
  simp only [eq_comm (a := dst)]

/-- Settles O19: the address of each form is that of its operand, named before the tick. -/
theorem memoryLoadsReadOneByte : Obligations.MemoryLoadsReadOneByte := by
  intro s dst nn n
  dsimp only
  have hHigh : exec (.ldh_A_atn n) s = .next (s.tick.setReg .a (s.tick.memRead (mkWord 0xFF n))) := exec_of_load .a (.high n) rfl
  have hHighC : exec .ld_A_atC s = .next (s.tick.setReg .a (s.tick.memRead (mkWord 0xFF s.regs.c))) := exec_of_load .a .highC rfl
  rw [mkWord_ff] at hHigh hHighC
  refine ⟨⟨ldRHl_encodedAs dst, ?_, ?_, ?_, ?_, ld_A_atnn_encodedAs nn, ?_, ?_⟩, exec_of_load dst .hl (exec_ldRHl dst s),
    exec_of_load .a .bc rfl, exec_of_load .a .de rfl, exec_ld_A_atHLinc_eq s, exec_ld_A_atHLdec_eq s,
    exec_of_load .a (.abs nn) rfl, hHigh, hHighC⟩
  all_goals exact encodedAs_of_fetched (by decide) rfl rfl

/-- Settles O20: the address of each form and the byte stored are those before the tick. -/
theorem memoryStoresWriteOneByte : Obligations.MemoryStoresWriteOneByte := by
  intro s r nn n
  dsimp only
  have hHigh : exec (.ldh_atn_A n) s = .next (s.tick.memWrite (mkWord 0xFF n) s.regs.a) := exec_of_store (.high n) .a rfl
  have hHighC : exec .ld_atC_A s = .next (s.tick.memWrite (mkWord 0xFF s.regs.c) s.regs.a) := exec_of_store .highC .a rfl
  rw [mkWord_ff] at hHigh hHighC
  refine ⟨⟨ldHlR_encodedAs r, ?_, ?_, ?_, ?_, ?_, ld_atnn_A_encodedAs nn, ?_, ?_⟩, exec_of_store .hl r (exec_ldHlR r s),
    exec_of_storeN .hl n rfl, exec_of_store .bc .a rfl, exec_of_store .de .a rfl, exec_ld_atHLinc_A_eq s,
    exec_ld_atHLdec_A_eq s, exec_of_store (.abs nn) .a rfl, hHigh, hHighC⟩
  all_goals exact encodedAs_of_fetched (by decide) rfl rfl

end Sys2Proof.Machine
end

section
/-! PROOFS. The 16-bit loads and the stack (42_load16.md), and the displacement added to SP (R195, R233). A push or a pop is two bytes
of the shared stack operations with a tick between them; what the statements write out is what those operations come to. -/
namespace Sys2Proof.Machine

/-! ## Encodings -/

theorem pushPair_encodedAs (p : StackPair) :
    Claim.EncodedAs (.pushPair p) [Claim.opcode (0b11000101 + 16 * Claim.stackField p)] := by
  cases p <;> exact encodedAs_of_fetched (by decide) rfl rfl

theorem popPair_encodedAs (p : StackPair) :
    Claim.EncodedAs (.popPair p) [Claim.opcode (0b11000001 + 16 * Claim.stackField p)] := by
  cases p <;> exact encodedAs_of_fetched (by decide) rfl rfl

/-! ## Stack pairs and their bytes -/

/-- F stored by PUSH AF (R22, R23). -/
theorem Flags.pack_eq_ofNat (f : Flags) :
    f.pack = BitVec.ofNat 8 (f.z.toNat * 128 + f.n.toNat * 64 + f.h.toNat * 32 + f.c.toNat * 16) := by
  rw [← Flags.toNat_pack, BitVec.ofNat_toNat, BitVec.setWidth_eq]

theorem stackPair_eq_mkWord (s : State) (p : StackPair) :
    s.stackPair p = mkWord (Claim.stackBytes s p).1 (Claim.stackBytes s p).2 := by
  cases p with
  | af => exact congrArg (mkWord s.regs.a) (Flags.pack_eq_ofNat s.flags)
  | bc | de | hl => rfl

theorem setStackPair_mkWord (s : State) (p : StackPair) (hi lo : Byte) :
    s.setStackPair p (mkWord hi lo) = Claim.withPair s p hi lo := by
  cases p <;> simp only [State.setStackPair, State.setHl, hiByte_mkWord, loByte_mkWord, Claim.withPair, Flags.unpack]

/-! ## Two bytes pushed and two bytes popped -/

theorem pushByte_tick_pushByte (s : State) (hi lo : Byte) :
    (s.pushByte hi).tick.pushByte lo = Claim.pushed s hi lo := by
  have hsp : s.sp - 1 - 1 = s.sp - 2 := by bv_omega
  rw [State.pushByte, tick_sp, pushByte_sp, hsp]
  rfl

/-- A pop into `lo`, over an SP and latches that are known. -/
theorem popLo_of_sp_latches {t : State} {a : Word} {x : Latches} (hsp : t.sp = a) (hx : t.latches = x) :
    t.popLo = { t with sp := a + 1, latches := { x with lo := t.memRead a } } := by
  subst hsp hx
  rfl

/-- A pop into `hi`, over an SP that is known. -/
theorem popHi_of_sp {t : State} {a : Word} (hsp : t.sp = a) :
    t.popHi = { t with sp := a + 1, latches := { t.latches with hi := t.memRead a } } := by
  subst hsp
  rfl

theorem popLo_tick_popHi (s : State) : s.tick.popLo.tick.popHi = Claim.popped s := by
  have hsp : s.sp + 1 + 1 = s.sp + 2 := by bv_omega
  rw [popLo_of_sp_latches (tick_sp s) (tick_latches s), popHi_of_sp (tick_sp _), hsp]
  rfl

/-! ## What PUSH, POP, LD (nn),SP and LD SP,HL do -/

theorem exec_pushPair (p : StackPair) (s : State) :
    exec (.pushPair p) s = .next (runSchedule [.idle, .idle, .pushHi p, .pushLo p] s) := by
  cases p <;> rfl

theorem exec_popPair (p : StackPair) (s : State) :
    exec (.popPair p) s = .next (runSchedule [.idle, .popLo, .popPair p] s) := by
  cases p <;> rfl

theorem exec_pushPair_eq (p : StackPair) (s : State) :
    exec (.pushPair p) s = .next (Claim.pushed s.tick.tick (Claim.stackBytes s p).1 (Claim.stackBytes s p).2) := by
  rw [exec_pushPair, runSchedule_idle, runSchedule_idle, runSchedule_step (fun _ => rfl), runSchedule_one]
  simp only [MicroOp.run, tick_stackPair, pushByte_stackPair, stackPair_eq_mkWord s, hiByte_mkWord, loByte_mkWord,
    pushByte_tick_pushByte]

theorem exec_popPair_eq (p : StackPair) (s : State) :
    exec (.popPair p) s =
      .next (Claim.withPair (Claim.popped s) p (Claim.popped s).latches.hi (Claim.popped s).latches.lo) := by
  rw [exec_popPair, runSchedule_idle, runSchedule_step (fun _ => rfl), runSchedule_one, MicroOp.run, MicroOp.run, popLo_tick_popHi,
    State.latched, setStackPair_mkWord]

theorem exec_ld_atnn_SP_eq (nn : Word) (s : State) : exec (.ld_atnn_SP nn) s =
    .next (State.memWrite (State.tick (s.tick.memWrite nn (loByte s.sp))) (nn + 1) (hiByte s.sp)) := by
  have hi : exec (.ld_atnn_SP nn) s = .next (runSchedule [.idle, .storeSpLo nn, .storeSpHi nn] s) := rfl
  rw [hi, runSchedule_idle, runSchedule_step (fun _ => rfl), runSchedule_one]
  simp only [MicroOp.run, tick_sp, memWrite_sp]

theorem exec_ld_SP_HL_eq (s : State) : exec .ld_SP_HL s = .next { s.tick with sp := mkWord s.regs.h s.regs.l } := by
  rw [exec_of_idle_then (m := .ldSpHl) rfl, MicroOp.run, tick_hl, State.hl]

/-! ## The displacement -/

/-- A displacement sign-extended and added to a word is the sum as integers, modulo 2^16 (R195, R233). -/
theorem add_sext16_eq_ofInt (v : Word) (e : Byte) : v + sext16 e = BitVec.ofInt 16 (v.toNat + e.toInt) := by
  rw [BitVec.ofInt_add, BitVec.ofInt_natCast, BitVec.ofNat_toNat, BitVec.setWidth_eq, sext16, BitVec.signExtend]

theorem addSpE_fst (v : Word) (e : Byte) : (addSpE v e).1 = v + sext16 e := rfl

/-- A write of HL and then of the flags, over a register file that is known. -/
theorem setHl_setFlags_of_regs {t : State} {g : Regs} (h : t.regs = g) (v : Word) (f : Flags) :
    (t.setHl v).setFlags f = { t with regs := { g with h := hiByte v, l := loByte v }, flags := f } := by
  subst h
  rfl

theorem exec_ld_HL_SPe_eq (e : Byte) (s : State) : exec (.ld_HL_SPe e) s =
    .next { s.tick with regs := { s.regs with h := hiByte (s.sp + sext16 e), l := loByte (s.sp + sext16 e) },
                        flags := (addSpE s.sp e).2 } := by
  rw [exec_of_idle_then (m := .ldHlSp e) rfl, MicroOp.run, tick_sp, addSpE_fst, setHl_setFlags_of_regs (tick_regs s)]

theorem exec_add_SP_e_eq (e : Byte) (s : State) : exec (.add_SP_e e) s =
    .next { s.tick.tick with sp := s.sp + sext16 e, flags := (addSpE s.sp e).2 } := by
  have hi : exec (.add_SP_e e) s = .next (runSchedule [.idle, .idle, .addSp e] s) := rfl
  rw [hi, runSchedule_idle, runSchedule_idle, runSchedule_one, MicroOp.run, tick_sp, tick_sp, addSpE_fst]

/-! ## The obligations -/

/-- Settles O21: LD rr,nn writes its pair within the last fetch's M-cycle; the other two forms follow a tick, which keeps SP and HL. -/
theorem wordLoadsMoveTwoBytes : Obligations.WordLoadsMoveTwoBytes := by
  intro s nn
  refine ⟨⟨?_, ?_, ?_, ?_, encodedAs_of_fetched (by decide) rfl rfl, ?_⟩, rfl, rfl, rfl, rfl, exec_ld_SP_HL_eq s,
    exec_ld_atnn_SP_eq nn s⟩
  all_goals exact encodedAs_of_word (by decide) (by decide) rfl rfl rfl

/-- Settles O22: either way the pair is the word of its two stack bytes. -/
theorem pushAndPopMoveAPair : Obligations.PushAndPopMoveAPair := fun s p =>
  ⟨pushPair_encodedAs p, popPair_encodedAs p, exec_pushPair_eq p s, exec_popPair_eq p s⟩

/-- Settles O24: the sum with the sign-extended byte is the sum as integers, modulo 2^16. -/
theorem stackPointerOffsetsAddTheDisplacement : Obligations.StackPointerOffsetsAddTheDisplacement := by
  intro s e
  dsimp only
  rw [← add_sext16_eq_ofInt]
  exact ⟨encodedAs_of_fetched (by decide) rfl rfl, encodedAs_of_fetched (by decide) rfl rfl, exec_ld_HL_SPe_eq e s,
    exec_add_SP_e_eq e s⟩

end Sys2Proof.Machine
end

section
/-! PROOFS. 8-bit arithmetic and logic (43_alu8.md). An operation on the accumulator is one function of the state and the operand,
whatever the operand's form (R200); the (HL) forms do theirs on the state in which the byte at HL has been read. The model narrows
exact sums and differences at the end, so each result is the statement's own up to arithmetic modulo 256. -/
namespace Sys2Proof.Machine

/-! ## Encodings -/

theorem alu_encoded (op : AluOp) (r : R8) (n : Byte) : Claim.AluEncoded op r n := by
  refine ⟨?register, ?hl, ?immediate⟩
  case register => cases op <;> cases r <;> exact encodedAs_of_fetched (by decide) rfl rfl
  case hl => cases op <;> exact encodedAs_of_fetched (by decide) rfl rfl
  case immediate => cases op <;> exact encodedAs_of_fetched (by decide) rfl rfl

theorem incR_encodedAs (r : R8) : Claim.EncodedAs (.incR r) [Claim.opcode (0b00000100 + 8 * Claim.rField r)] := by
  cases r <;> exact encodedAs_of_fetched (by decide) rfl rfl

theorem decR_encodedAs (r : R8) : Claim.EncodedAs (.decR r) [Claim.opcode (0b00000101 + 8 * Claim.rField r)] := by
  cases r <;> exact encodedAs_of_fetched (by decide) rfl rfl

/-! ## The byte at HL as an operand -/

theorem readT_tick (s : State) : s.tick.readT = Claim.operandRead s := by
  rw [State.readT, tick_latches, tick_hl]
  rfl

@[simp] theorem operandRead_regs (s : State) : (Claim.operandRead s).regs = s.regs := by
  rw [← readT_tick, readT_regs, tick_regs]

@[simp] theorem operandRead_flags (s : State) : (Claim.operandRead s).flags = s.flags := by
  rw [← readT_tick, readT_flags, tick_flags]

theorem operandRead_hl (s : State) : (Claim.operandRead s).hl = mkWord s.regs.h s.regs.l := by
  rw [State.hl, operandRead_regs]

/-- The forms that read (HL) in one M-cycle and write it back in the next compute the byte and the flags from the latched byte. -/
theorem exec_of_readHl_then {i : Instr} {m : MicroOp} {s : State} (hi : exec i s = .next (runSchedule [.idle, .readHl, m] s))
    {f : Flags → Byte → Byte × Flags} (hm : ∀ t, m.run t = t.writeHl (f t.flags t.latches.t)) :
    exec i s = .next (State.memWrite
      { (Claim.operandRead s).tick with flags := (f s.flags (Claim.operandRead s).latches.t).2 }
      (mkWord s.regs.h s.regs.l) (f s.flags (Claim.operandRead s).latches.t).1) := by
  have hread : MicroOp.readHl.run s.tick = Claim.operandRead s := readT_tick s
  rw [hi, runSchedule_idle, runSchedule_step (fun _ => rfl), runSchedule_one, hread, hm, State.writeHl, tick_hl, operandRead_hl,
    tick_flags, operandRead_flags, tick_latches]
  rfl

/-! ## The three operand forms -/

/-- An ALU operation on the accumulator and an operand (R200). -/
def State.accumulate (s : State) (op : AluOp) (v : Byte) : State := s.setResult .a (alu op s.flags s.regs.a v)

theorem exec_aluR_eq (op : AluOp) (r : R8) (s : State) : exec (.aluR op r) s = .next (s.accumulate op (s.reg r)) := by
  cases op <;> cases r <;> rfl

theorem exec_aluN_eq (op : AluOp) (n : Byte) (s : State) : exec (.aluN op n) s = .next (s.accumulate op n) := by
  cases op <;> rfl

theorem exec_aluHl_eq (op : AluOp) (s : State) :
    exec (.aluHl op) s = .next ((Claim.operandRead s).accumulate op (Claim.operandRead s).latches.t) := by
  have hi : exec (.aluHl op) s = .next (runSchedule [.idle, .aluHl op] s) := by cases op <;> rfl
  rw [exec_of_idle_then hi, ← readT_tick, MicroOp.run, State.accumulate, readT_flags, readT_regs, readT_t]

/-! ## Results as the rules write them -/

theorem decide_byte_eq_zero (x : Byte) : decide (x = 0) = decide (x.toNat = 0) := decide_eq_decide.2 BitVec.toNat_eq

theorem addCarry_eq (s : State) (v : Byte) (carry : Bool) :
    s.setResult .a (addCarry s.regs.a v carry) = Claim.added s v carry := by
  rw [addCarry, decide_byte_eq_zero, BitVec.toNat_ofNat]
  rfl

/-- The exact difference, narrowed, is the difference of the bytes. -/
theorem ofInt_sub_sub_eq (a v : Byte) (c : Nat) :
    BitVec.ofInt 8 ((a.toNat : Int) - v.toNat - c) = a - v - BitVec.ofNat 8 c := by
  have hsum : BitVec.ofInt 8 ((a.toNat : Int) - v.toNat - c) + BitVec.ofNat 8 c + v = a := by
    calc BitVec.ofInt 8 ((a.toNat : Int) - v.toNat - c) + BitVec.ofNat 8 c + v
        = BitVec.ofInt 8 ((a.toNat : Int) - v.toNat - c + c + v.toNat) := by
          rw [BitVec.ofInt_add, BitVec.ofInt_add, BitVec.ofInt_natCast, BitVec.ofInt_natCast, BitVec.ofNat_toNat, BitVec.setWidth_eq]
      _ = BitVec.ofInt 8 (a.toNat : Int) := by rw [sub_add_cancel, sub_add_cancel]
      _ = a := by rw [BitVec.ofInt_natCast, BitVec.ofNat_toNat, BitVec.setWidth_eq]
  rw [eq_sub_iff_add_eq, eq_sub_iff_add_eq, hsum]

/-- A borrow is a negative exact difference (R217). -/
theorem sub_sub_neg_iff (a v c : Nat) : (a : Int) - v - c < 0 ↔ a < v + c := by omega

theorem subCarry_eq (s : State) (v : Byte) (carry : Bool) : subCarry s.regs.a v carry = Claim.difference s v carry := by
  simp only [subCarry, Claim.difference, ofInt_sub_sub_eq, decide_byte_eq_zero, sub_sub_neg_iff]

theorem inc8_eq (f : Flags) (x : Byte) : inc8 f x = (x + 1, Claim.incFlags f x) := by
  rw [inc8, decide_byte_eq_zero, BitVec.toNat_add]
  rfl

theorem dec8_eq (f : Flags) (x : Byte) : dec8 f x = (x - 1, Claim.decFlags f x) := by
  have hz : x - 1 = 0 ↔ x.toNat = 1 := by rw [sub_eq_zero, BitVec.toNat_eq]; rfl
  rw [dec8, decide_eq_decide.2 hz]
  rfl

theorem not_eq_ofNat (a : Byte) : ~~~a = BitVec.ofNat 8 (255 - a.toNat) := by
  rw [← BitVec.toNat_inj, BitVec.toNat_not, BitVec.toNat_ofNat]
  omega

/-! ## The eight operations -/

section
variable (s : State) (v : Byte)

theorem accumulate_add : s.accumulate .add v = Claim.added s v false := addCarry_eq s v false

theorem accumulate_adc : s.accumulate .adc v = Claim.added s v s.flags.c := addCarry_eq s v s.flags.c

theorem accumulate_sub : s.accumulate .sub v = Claim.subtracted s v false :=
  congrArg (s.setResult .a) (subCarry_eq s v false)

theorem accumulate_sbc : s.accumulate .sbc v = Claim.subtracted s v s.flags.c :=
  congrArg (s.setResult .a) (subCarry_eq s v s.flags.c)

theorem accumulate_cp : s.accumulate .cp v = Claim.compared s v := by
  rw [State.accumulate, alu, subCarry_eq]
  rfl

theorem setResult_logicFlags (h : Bool) : s.setResult .a (v, logicFlags v h) = Claim.combined s v h := by
  rw [logicFlags, decide_byte_eq_zero]
  rfl

theorem accumulate_and : s.accumulate .and v = Claim.combined s (s.regs.a &&& v) true := setResult_logicFlags s _ true

theorem accumulate_xor : s.accumulate .xor v = Claim.combined s (s.regs.a ^^^ v) false := setResult_logicFlags s _ false

theorem accumulate_or : s.accumulate .or v = Claim.combined s (s.regs.a ||| v) false := setResult_logicFlags s _ false

end

/-! ## INC, DEC and the accumulator's complement -/

theorem exec_incR_eq (r : R8) (s : State) :
    exec (.incR r) s = .next ((s.setReg r (s.reg r + 1)).setFlags (Claim.incFlags s.flags (s.reg r))) := by
  have hi : exec (.incR r) s = .next (s.setResult r (inc8 s.flags (s.reg r))) := by cases r <;> rfl
  rw [hi, inc8_eq, State.setResult]

theorem exec_decR_eq (r : R8) (s : State) :
    exec (.decR r) s = .next ((s.setReg r (s.reg r - 1)).setFlags (Claim.decFlags s.flags (s.reg r))) := by
  have hi : exec (.decR r) s = .next (s.setResult r (dec8 s.flags (s.reg r))) := by cases r <;> rfl
  rw [hi, dec8_eq, State.setResult]

theorem exec_inc_atHL_eq (s : State) : exec .inc_atHL s = .next (State.memWrite
    { (Claim.operandRead s).tick with flags := Claim.incFlags s.flags (Claim.operandRead s).latches.t }
    (mkWord s.regs.h s.regs.l) ((Claim.operandRead s).latches.t + 1)) := by
  rw [exec_of_readHl_then (m := .incHl) (f := inc8) rfl (fun _ => rfl), inc8_eq]

theorem exec_dec_atHL_eq (s : State) : exec .dec_atHL s = .next (State.memWrite
    { (Claim.operandRead s).tick with flags := Claim.decFlags s.flags (Claim.operandRead s).latches.t }
    (mkWord s.regs.h s.regs.l) ((Claim.operandRead s).latches.t - 1)) := by
  rw [exec_of_readHl_then (m := .decHl) (f := dec8) rfl (fun _ => rfl), dec8_eq]

theorem exec_cpl_eq (s : State) : exec .cpl s = .next { s with
    regs := { s.regs with a := BitVec.ofNat 8 (255 - s.regs.a.toNat) }, flags := { s.flags with n := true, h := true } } := by
  rw [← not_eq_ofNat]
  rfl

/-! ## The obligations -/

/-- Settles O25: each form is the accumulator operation on its operand, and the tick before the (HL) form's read keeps the carry. -/
theorem addAndAdcSetResultAndFlags : Obligations.AddAndAdcSetResultAndFlags := by
  intro s r n
  refine ⟨alu_encoded .add r n, alu_encoded .adc r n, ?_⟩
  simp only [exec_aluR_eq, exec_aluN_eq, exec_aluHl_eq, accumulate_add, accumulate_adc, operandRead_flags, and_self]

/-- Settles O26: the borrows are the signs of the exact differences, and CP keeps the difference's flags alone. -/
theorem subSbcCpSetResultAndFlags : Obligations.SubSbcCpSetResultAndFlags := by
  intro s r n
  refine ⟨alu_encoded .sub r n, alu_encoded .sbc r n, alu_encoded .cp r n, ?_⟩
  simp only [exec_aluR_eq, exec_aluN_eq, exec_aluHl_eq, accumulate_sub, accumulate_sbc, accumulate_cp, operandRead_flags, and_self]

/-- Settles O27: the tick before the (HL) form's read keeps A. -/
theorem logicSetsResultAndFlags : Obligations.LogicSetsResultAndFlags := by
  intro s r n
  refine ⟨alu_encoded .and r n, alu_encoded .xor r n, alu_encoded .or r n, ?_⟩
  simp only [exec_aluR_eq, exec_aluN_eq, exec_aluHl_eq, accumulate_and, accumulate_xor, accumulate_or, operandRead_regs, and_self]

/-- Settles O28: the byte at HL is read and written in two M-cycles, and the tick between them keeps the latched byte, HL and C. -/
theorem incAndDecKeepCarry : Obligations.IncAndDecKeepCarry := fun s r =>
  ⟨⟨incR_encodedAs r, decR_encodedAs r, encodedAs_of_fetched (by decide) rfl rfl, encodedAs_of_fetched (by decide) rfl rfl⟩,
    exec_incR_eq r s, exec_decR_eq r s, exec_inc_atHL_eq s, exec_dec_atHL_eq s⟩

/-- Settles O29: SCF and CCF are equations of the model; CPL's complement is 255 - A. -/
theorem cplScfCcfSetResultAndFlags : Obligations.CplScfCcfSetResultAndFlags := by
  intro s
  refine ⟨⟨?_, ?_, ?_⟩, exec_cpl_eq s, rfl, rfl⟩
  all_goals exact encodedAs_of_fetched (by decide) rfl rfl

end Sys2Proof.Machine
end

section
/-! PROOFS. 16-bit arithmetic (44_alu16.md). Each form does its work in the M-cycle after the fetch, so one tick comes before it,
which keeps the pairs and the flags; the rules' sums of numbers, taken modulo 2^16, are the model's sums of words. -/
namespace Sys2Proof.Machine

/-! ## Encodings -/

theorem addHlPair_encodedAs (p : Pair) :
    Claim.EncodedAs (.addHlPair p) [Claim.opcode (0b00001001 + 16 * Claim.pairField p)] := by
  cases p <;> exact encodedAs_of_fetched (by decide) rfl rfl

theorem incPair_encodedAs (p : Pair) :
    Claim.EncodedAs (.incPair p) [Claim.opcode (0b00000011 + 16 * Claim.pairField p)] := by
  cases p <;> exact encodedAs_of_fetched (by decide) rfl rfl

theorem decPair_encodedAs (p : Pair) :
    Claim.EncodedAs (.decPair p) [Claim.opcode (0b00001011 + 16 * Claim.pairField p)] := by
  cases p <;> exact encodedAs_of_fetched (by decide) rfl rfl

/-! ## Schedules of the pair families -/

theorem exec_addHlPair (p : Pair) (s : State) : exec (.addHlPair p) s = .next (runSchedule [.idle, .addHl p] s) := by
  cases p <;> rfl

theorem exec_incPair (p : Pair) (s : State) : exec (.incPair p) s = .next (runSchedule [.idle, .incPair p] s) := by
  cases p <;> rfl

theorem exec_decPair (p : Pair) (s : State) : exec (.decPair p) s = .next (runSchedule [.idle, .decPair p] s) := by
  cases p <;> rfl

theorem exec_addHlPair_eq (p : Pair) (s : State) : exec (.addHlPair p) s =
    .next ((s.tick.setHl (addHlResult s.flags s.hl (s.pair p)).1).setFlags (addHlResult s.flags s.hl (s.pair p)).2) := by
  rw [exec_of_idle_then (exec_addHlPair p s), MicroOp.run, tick_flags, tick_hl, tick_pair]

theorem exec_incPair_eq (p : Pair) (s : State) : exec (.incPair p) s = .next (s.tick.setPair p (s.pair p + 1)) := by
  rw [exec_of_idle_then (exec_incPair p s), MicroOp.run, tick_pair]

theorem exec_decPair_eq (p : Pair) (s : State) : exec (.decPair p) s = .next (s.tick.setPair p (s.pair p - 1)) := by
  rw [exec_of_idle_then (exec_decPair p s), MicroOp.run, tick_pair]

/-! ## Results as the rules write them -/

theorem pair_eq_pairWord (s : State) (p : Pair) : s.pair p = Claim.pairWord s p := by
  cases p <;> rfl

/-- A sum of numbers, narrowed, is the sum of the words. -/
theorem word_ofNat_add (v : Word) (k : Nat) : BitVec.ofNat 16 (v.toNat + k) = v + BitVec.ofNat 16 k := by
  rw [BitVec.ofNat_add, BitVec.ofNat_toNat, BitVec.setWidth_eq]

/-! ## The obligation -/

/-- Settles O31: the tick before the work keeps HL, the pair and the flags, and adding 0xFFFF is subtracting 1 modulo 2^16. -/
theorem pairArithmeticSetsItsFlags : Obligations.PairArithmeticSetsItsFlags := by
  intro s p
  have hsub (v : Word) : v + BitVec.ofNat 16 0xFFFF = v - 1 := (sub_eq_add_neg v 1).symm
  dsimp only
  rw [word_ofNat_add, word_ofNat_add, word_ofNat_add, hsub, BitVec.ofNat_toNat, BitVec.setWidth_eq, ← pair_eq_pairWord,
    ← pair_eq_pairWord]
  exact ⟨⟨addHlPair_encodedAs p, incPair_encodedAs p, decPair_encodedAs p⟩, exec_addHlPair_eq p s, exec_incPair_eq p s,
    exec_decPair_eq p s⟩

end Sys2Proof.Machine
end

section
/-! PROOFS. Rotates, shifts and bits (45_rotate_shift_bit.md). The rules write results as numbers. A rotate's byte is a part moved
into place and the bits that fill what it left, which do not overlap, so their OR is a sum; RES takes the bit's own value off the
byte and SET adds what the bit lacks. The (HL) forms read and write in the two M-cycles after the fetches (R244). -/
namespace Sys2Proof.Machine

/-! ## Encodings -/

theorem cbR_encodedAs (op : CbOp) (r : R8) :
    Claim.EncodedAs (.cbR op r) [0xCB, Claim.opcode (8 * Claim.cbField op + Claim.rField r)] := by
  cases op <;> cases r <;> exact encodedAs_of_fetched (by decide) rfl rfl

theorem cbHl_encodedAs (op : CbOp) : Claim.EncodedAs (.cbHl op) [0xCB, Claim.opcode (8 * Claim.cbField op + 6)] := by
  cases op <;> exact encodedAs_of_fetched (by decide) rfl rfl

section
variable (b : Fin 8) (r : R8)

theorem bitR_encodedAs : Claim.EncodedAs (.bitR b r) [0xCB, Claim.opcode (0b01000000 + 8 * b.val + Claim.rField r)] := by
  fin_cases b <;> cases r <;> exact encodedAs_of_fetched (by decide) rfl rfl

theorem bitHl_encodedAs : Claim.EncodedAs (.bitHl b) [0xCB, Claim.opcode (0b01000110 + 8 * b.val)] := by
  fin_cases b <;> exact encodedAs_of_fetched (by decide) rfl rfl

theorem resR_encodedAs : Claim.EncodedAs (.resR b r) [0xCB, Claim.opcode (0b10000000 + 8 * b.val + Claim.rField r)] := by
  fin_cases b <;> cases r <;> exact encodedAs_of_fetched (by decide) rfl rfl

theorem resHl_encodedAs : Claim.EncodedAs (.resHl b) [0xCB, Claim.opcode (0b10000110 + 8 * b.val)] := by
  fin_cases b <;> exact encodedAs_of_fetched (by decide) rfl rfl

theorem setR_encodedAs : Claim.EncodedAs (.setR b r) [0xCB, Claim.opcode (0b11000000 + 8 * b.val + Claim.rField r)] := by
  fin_cases b <;> cases r <;> exact encodedAs_of_fetched (by decide) rfl rfl

theorem setHl_encodedAs : Claim.EncodedAs (.setHl b) [0xCB, Claim.opcode (0b11000110 + 8 * b.val)] := by
  fin_cases b <;> exact encodedAs_of_fetched (by decide) rfl rfl

end

/-! ## What each form does -/

/-- The forms that read (HL) in one M-cycle and write it back in the next without touching a flag. -/
theorem exec_of_readHl_then_store {i : Instr} {m : MicroOp} {s : State}
    (hi : exec i s = .next (runSchedule [.idle, .readHl, m] s)) {g : Byte → Byte}
    (hm : ∀ t, m.run t = t.memWrite t.hl (g t.latches.t)) :
    exec i s = .next ((Claim.operandRead s).tick.memWrite (mkWord s.regs.h s.regs.l) (g (Claim.operandRead s).latches.t)) := by
  have hread : MicroOp.readHl.run s.tick = Claim.operandRead s := readT_tick s
  rw [hi, runSchedule_idle, runSchedule_step (fun _ => rfl), runSchedule_one, hread, hm, tick_hl, operandRead_hl, tick_latches]

theorem exec_accRot_eq (i : AccRot) (s : State) :
    exec (.accRot i) s = .next (s.setResult .a (accRotate i s.flags s.regs.a)) := by
  cases i <;> rfl

theorem exec_cbR_eq (op : CbOp) (r : R8) (s : State) :
    exec (.cbR op r) s = .next (s.setResult r (cbResult op s.flags (s.reg r))) := by
  cases op <;> cases r <;> rfl

theorem exec_cbHl (op : CbOp) (s : State) : exec (.cbHl op) s = .next (runSchedule [.idle, .readHl, .cbHl op] s) := by
  cases op <;> rfl

section
variable (b : Fin 8) (r : R8) (s : State)

theorem exec_bitR_eq : exec (.bitR b r) s = .next (s.setFlags (bitFlags b s.flags (s.reg r))) := by
  fin_cases b <;> cases r <;> rfl

theorem exec_bitHl_eq : exec (.bitHl b) s =
    .next ((Claim.operandRead s).setFlags (bitFlags b s.flags (Claim.operandRead s).latches.t)) := by
  have hi : exec (.bitHl b) s = .next (runSchedule [.idle, .bitHl b] s) := by fin_cases b <;> rfl
  rw [exec_of_idle_then hi, ← readT_tick, MicroOp.run, tick_flags, readT_t]

theorem exec_resR_eq : exec (.resR b r) s = .next (s.setReg r (resBit b (s.reg r))) := by
  fin_cases b <;> cases r <;> rfl

theorem exec_resHl_eq : exec (.resHl b) s =
    .next ((Claim.operandRead s).tick.memWrite (mkWord s.regs.h s.regs.l) (resBit b (Claim.operandRead s).latches.t)) :=
  exec_of_readHl_then_store (m := .resHl b) (by fin_cases b <;> rfl) (fun _ => rfl)

theorem exec_setR_eq : exec (.setR b r) s = .next (s.setReg r (setBit b (s.reg r))) := by
  fin_cases b <;> cases r <;> rfl

theorem exec_setHl_eq : exec (.setHl b) s =
    .next ((Claim.operandRead s).tick.memWrite (mkWord s.regs.h s.regs.l) (setBit b (Claim.operandRead s).latches.t)) :=
  exec_of_readHl_then_store (m := .setHl b) (by fin_cases b <;> rfl) (fun _ => rfl)

end

/-! ## Bits as numbers -/

section
variable (x : Byte)

theorem getLsbD_eq_decide (i : Nat) : x.getLsbD i = decide (x.toNat / 2 ^ i % 2 = 1) := Nat.testBit_eq_decide_div_mod_eq

theorem toNat_getLsbD (i : Nat) : (x.getLsbD i).toNat = x.toNat / 2 ^ i % 2 := Nat.toNat_testBit x.toNat i

theorem getLsbD_seven : x.getLsbD 7 = decide (128 ≤ x.toNat) := by
  have hx := x.isLt
  rw [getLsbD_eq_decide, decide_eq_decide]
  omega

theorem getLsbD_zero : x.getLsbD 0 = decide (x.toNat % 2 = 1) := by
  rw [getLsbD_eq_decide, pow_zero, Nat.div_one]

theorem toNat_getLsbD_seven : (x.getLsbD 7).toNat = x.toNat / 128 := by
  have hx := x.isLt
  rw [toNat_getLsbD]
  omega

theorem toNat_getLsbD_zero : (x.getLsbD 0).toNat = x.toNat % 2 := by
  rw [toNat_getLsbD, pow_zero, Nat.div_one]

end

/-! ## RES and SET -/

section
variable (b : Fin 8) (x : Byte)

/-- One bit of a byte, in its place. -/
theorem toNat_and_twoPow : (x &&& BitVec.twoPow 8 b.val).toNat = (x.getLsbD b).toNat * 2 ^ b.val := by
  rw [BitVec.and_twoPow]
  cases x.getLsbD b with
  | true => rw [if_pos rfl, BitVec.toNat_twoPow_of_lt b.isLt, Bool.toNat_true, one_mul]
  | false => rw [if_neg Bool.false_ne_true, Bool.toNat_false, zero_mul, BitVec.toNat_zero]

/-- A byte is what a mask leaves out and what it keeps. -/
theorem and_not_add_and (m : Byte) : (x &&& ~~~m) + (x &&& m) = x := by
  rw [BitVec.add_eq_or_of_and_eq_zero]
  · ext i hi; grind
  · ext i hi; grind

/-- An OR adds the bits of the mask that the byte lacks. -/
theorem add_not_and (m : Byte) : x + (~~~x &&& m) = x ||| m := by
  rw [BitVec.add_eq_or_of_and_eq_zero]
  · ext i hi; grind
  · ext i hi; grind

theorem resBit_eq_ofNat : resBit b x = BitVec.ofNat 8 (x.toNat - x.toNat / 2 ^ b.val % 2 * 2 ^ b.val) := by
  have hsum : resBit b x + (x &&& BitVec.twoPow 8 b.val) = x := and_not_add_and x (BitVec.twoPow 8 b.val)
  have hle : (x &&& BitVec.twoPow 8 b.val).toNat ≤ x.toNat := by rw [BitVec.toNat_and]; exact Nat.and_le_left
  rw [← toNat_getLsbD, ← toNat_and_twoPow]
  bv_omega

theorem setBit_eq_ofNat : setBit b x = BitVec.ofNat 8 (x.toNat + (1 - x.toNat / 2 ^ b.val % 2) * 2 ^ b.val) := by
  have hnot : ((~~~x).getLsbD b).toNat = 1 - (x.getLsbD b).toNat := by
    rw [BitVec.getLsbD_not, decide_eq_true b.isLt, Bool.true_and]
    cases x.getLsbD b <;> rfl
  have hsum : x + (~~~x &&& BitVec.twoPow 8 b.val) = setBit b x := add_not_and x (BitVec.twoPow 8 b.val)
  rw [← toNat_getLsbD, ← hnot, ← toNat_and_twoPow, ← hsum, BitVec.ofNat_add, BitVec.ofNat_toNat, BitVec.ofNat_toNat,
    BitVec.setWidth_eq, BitVec.setWidth_eq]

theorem bitFlags_eq (f : Flags) :
    bitFlags b f x = { f with z := decide (x.toNat / 2 ^ b.val % 2 = 0), n := false, h := true } := by
  have hz : (!x.getLsbD b) = decide (x.toNat / 2 ^ b.val % 2 = 0) := by
    rw [← toNat_getLsbD]
    cases x.getLsbD b <;> rfl
  rw [bitFlags, hz]

end

/-! ## The bytes of the rotates and shifts -/

/-- Parts of a byte that do not overlap: `low` lies below bit `k` and `high` does not. -/
theorem toNat_or_of_lt {high low : Byte} (k : Nat) (hhigh : high.toNat % 2 ^ k = 0) (hlow : low.toNat < 2 ^ k) :
    (high ||| low).toNat = high.toNat + low.toNat := by
  have h : high.toNat = 2 ^ k * (high.toNat / 2 ^ k) := (Nat.mul_div_cancel' (Nat.dvd_of_mod_eq_zero hhigh)).symm
  rw [BitVec.toNat_or, h, ← Nat.two_pow_add_eq_or_of_lt hlow]

section
variable (x : Byte) (c : Bool)

theorem toNat_shiftLeft_one : (x <<< 1).toNat = x.toNat * 2 % 256 := by
  rw [BitVec.toNat_shiftLeft, Nat.shiftLeft_eq, pow_one]

theorem toNat_ushiftRight_one : (x >>> 1).toNat = x.toNat / 2 := by
  rw [BitVec.toNat_ushiftRight, Nat.shiftRight_eq_div_pow, pow_one]

theorem toNat_bit_zero : ((BitVec.ofBool c).setWidth 8).toNat = c.toNat := by cases c <;> rfl

theorem toNat_bit_seven : ((BitVec.ofBool c).setWidth 8 <<< 7).toNat = c.toNat * 128 := by cases c <;> rfl

/-- The byte moved left with `c` at bit 0 (R245, R247). -/
theorem toNat_left : ((x <<< 1) ||| (BitVec.ofBool c).setWidth 8).toNat = x.toNat * 2 % 256 + c.toNat := by
  have hc := c.toNat_lt
  rw [toNat_or_of_lt 1, toNat_shiftLeft_one, toNat_bit_zero]
  · rw [toNat_shiftLeft_one]; omega
  · rwa [toNat_bit_zero]

/-- The byte moved right with `c` at bit 7 (R246, R248). -/
theorem toNat_right : ((x >>> 1) ||| ((BitVec.ofBool c).setWidth 8 <<< 7)).toNat = x.toNat / 2 + c.toNat * 128 := by
  have hx := x.isLt
  rw [BitVec.or_comm, toNat_or_of_lt 7, toNat_ushiftRight_one, toNat_bit_seven, add_comm]
  · rw [toNat_bit_seven]; exact Nat.mul_mod_left _ 128
  · rw [toNat_ushiftRight_one]; omega

theorem and_0x80_eq : x &&& (0x80 : Byte) = (BitVec.ofBool (x.getLsbD 7)).setWidth 8 <<< 7 := by
  apply BitVec.eq_of_toNat_eq
  rw [toNat_bit_seven]
  exact toNat_and_twoPow 7 x

theorem toNat_swap : (((x &&& 0x0F) <<< 4) ||| (x >>> 4)).toNat = x.toNat % 16 * 16 + x.toNat / 16 := by
  have hx := x.isLt
  have hand : (x &&& 0x0F).toNat = x.toNat % 16 := by
    rw [BitVec.toNat_and]; exact Nat.and_two_pow_sub_one_eq_mod x.toNat 4
  have hhigh : ((x &&& 0x0F) <<< 4).toNat = x.toNat % 16 * 16 := by
    rw [BitVec.toNat_shiftLeft, Nat.shiftLeft_eq, hand]; omega
  have hlow : (x >>> 4).toNat = x.toNat / 16 := by
    rw [BitVec.toNat_ushiftRight, Nat.shiftRight_eq_div_pow]
  rw [toNat_or_of_lt 4, hhigh, hlow]
  · rw [hhigh]; exact Nat.mul_mod_left _ 16
  · rw [hlow]; omega

end

theorem toNat_rotate_fst (op : CbOp) (c : Bool) (x : Byte) :
    (rotate op c x).1.toNat = Claim.rotated op x.toNat c.toNat := by
  cases op with
  | rlc => exact (toNat_left x _).trans (congrArg _ (toNat_getLsbD_seven x))
  | rrc => exact (toNat_right x _).trans (congrArg (_ + · * 128) (toNat_getLsbD_zero x))
  | rl => exact toNat_left x c
  | rr => exact toNat_right x c
  | sla => exact toNat_shiftLeft_one x
  | sra =>
    rw [rotate, and_0x80_eq, toNat_right, toNat_getLsbD_seven, Claim.rotated]
  | swap => exact toNat_swap x
  | srl => exact toNat_ushiftRight_one x

theorem rotate_snd (op : CbOp) (c : Bool) (x : Byte) : (rotate op c x).2 = Claim.carriedOut op x.toNat := by
  cases op with
  | rlc | rl | sla => exact getLsbD_seven x
  | rrc | rr | sra | srl => exact getLsbD_zero x
  | swap => rfl

theorem rotate_eq (op : CbOp) (c : Bool) (x : Byte) :
    rotate op c x = (BitVec.ofNat 8 (Claim.rotated op x.toNat c.toNat), Claim.carriedOut op x.toNat) := by
  rw [← toNat_rotate_fst, ← rotate_snd op c x, BitVec.ofNat_toNat, BitVec.setWidth_eq]

theorem cbResult_eq (op : CbOp) (f : Flags) (x : Byte) : cbResult op f x =
    (BitVec.ofNat 8 (Claim.rotated op x.toNat f.c.toNat), Claim.rotateFlags op x.toNat f.c.toNat) := by
  rw [Claim.rotateFlags, ← toNat_rotate_fst, ← decide_byte_eq_zero, ← rotate_snd op f.c x, BitVec.ofNat_toNat,
    BitVec.setWidth_eq]
  rfl

theorem accRotate_eq (i : AccRot) (f : Flags) (a : Byte) : accRotate i f a =
    (BitVec.ofNat 8 (Claim.rotated (accRotOp i) a.toNat f.c.toNat),
      { z := false, n := false, h := false, c := Claim.carriedOut (accRotOp i) a.toNat }) := by
  rw [accRotate, rotate_eq]

/-! ## The obligations -/

/-- Settles O32: each accumulator rotate is its CB rotation of A, whose byte and bit moved out are the rules' numbers. -/
theorem accumulatorRotatesSetResultAndFlags : Obligations.AccumulatorRotatesSetResultAndFlags := by
  intro s i op k hmem
  have hexec := exec_accRot_eq i s
  rw [accRotate_eq] at hexec
  simp only [List.mem_cons, Prod.mk.injEq, List.not_mem_nil, or_false] at hmem
  obtain ⟨rfl, rfl, rfl⟩ | ⟨rfl, rfl, rfl⟩ | ⟨rfl, rfl, rfl⟩ | ⟨rfl, rfl, rfl⟩ := hmem
  all_goals exact ⟨encodedAs_of_fetched (by decide) rfl rfl, hexec⟩

/-- Settles O33: the (HL) form computes from the byte read, which the tick before its write keeps, with HL and the carry. -/
theorem rotatesAndShiftsSetResultAndFlags : Obligations.RotatesAndShiftsSetResultAndFlags := by
  intro s op r
  refine ⟨cbR_encodedAs op r, cbHl_encodedAs op, ?_, ?_⟩
  · rw [exec_cbR_eq, cbResult_eq, State.setResult]
  · rw [exec_of_readHl_then (f := cbResult op) (exec_cbHl op s) (fun _ => rfl), cbResult_eq]

/-- Settles O34: RES takes off the bit's value and SET adds what it lacks; the (HL) forms compute from the byte read. -/
theorem bitResSetActOnOneBit : Obligations.BitResSetActOnOneBit := by
  intro s b r
  dsimp only
  simp only [← resBit_eq_ofNat, ← setBit_eq_ofNat, ← bitFlags_eq]
  exact ⟨⟨bitR_encodedAs b r, bitHl_encodedAs b, resR_encodedAs b r, resHl_encodedAs b, setR_encodedAs b r, setHl_encodedAs b⟩,
    exec_bitR_eq b r s, exec_bitHl_eq b s, exec_resR_eq b r s, exec_resHl_eq b s, exec_setR_eq b r s, exec_setHl_eq b s⟩

end Sys2Proof.Machine
end

section
/-! PROOFS. Control transfer (46_control.md). A condition is evaluated in one M-cycle and its outcome latched; when it fails the
schedule ends there, and when it holds the rest of the schedule is that of the unconditional form. So each of the three schedules
that jump (the jump itself, the two bytes pushed, the two bytes popped) is stated once and serves both forms. -/
namespace Sys2Proof.Machine

/-! ## Encodings -/

theorem jpCC_encodedAs (cc : Cond) (nn : Word) :
    Claim.EncodedAs (.jpCC cc nn) [Claim.opcode (0b11000010 + 8 * Claim.ccField cc), loByte nn, hiByte nn] := by
  cases cc <;> exact encodedAs_of_word (by decide) (by decide) rfl rfl rfl

theorem jrCC_encodedAs (cc : Cond) (e : Byte) :
    Claim.EncodedAs (.jrCC cc e) [Claim.opcode (0b00100000 + 8 * Claim.ccField cc), e] := by
  cases cc <;> exact encodedAs_of_fetched (by decide) rfl rfl

theorem callCC_encodedAs (cc : Cond) (nn : Word) :
    Claim.EncodedAs (.callCC cc nn) [Claim.opcode (0b11000100 + 8 * Claim.ccField cc), loByte nn, hiByte nn] := by
  cases cc <;> exact encodedAs_of_word (by decide) (by decide) rfl rfl rfl

theorem rst_encodedAs (t : Fin 8) : Claim.EncodedAs (.rst t) [Claim.opcode (0b11000111 + 8 * t.val)] := by
  fin_cases t <;> exact encodedAs_of_fetched (by decide) rfl rfl

theorem retCC_encodedAs (cc : Cond) : Claim.EncodedAs (.retCC cc) [Claim.opcode (0b11000000 + 8 * Claim.ccField cc)] := by
  cases cc <;> exact encodedAs_of_fetched (by decide) rfl rfl

/-! ## Schedules of the conditional families and of RST -/

theorem exec_jpCC (cc : Cond) (nn : Word) (s : State) :
    exec (.jpCC cc nn) s = .next (runSchedule [.test cc, .jump nn] s) := by
  cases cc <;> rfl

theorem exec_jrCC (cc : Cond) (e : Byte) (s : State) :
    exec (.jrCC cc e) s = .next (runSchedule [.test cc, .jumpRel e] s) := by
  cases cc <;> rfl

theorem exec_callCC (cc : Cond) (nn : Word) (s : State) :
    exec (.callCC cc nn) s = .next (runSchedule [.test cc, .idle, .pushPcHi, .pushPcLoJump nn] s) := by
  cases cc <;> rfl

theorem exec_rst (t : Fin 8) (s : State) : exec (.rst t) s =
    .next (runSchedule [.idle, .idle, .pushPcHi, .pushPcLoJump (BitVec.ofNat 16 (8 * t.val))] s) := by
  fin_cases t <;> rfl

theorem exec_retCC (cc : Cond) (s : State) :
    exec (.retCC cc) s = .next (runSchedule [.idle, .test cc, .popLo, .popHi, .retJump] s) := by
  cases cc <;> rfl

/-! ## Conditions (R281) -/

theorem condHolds_iff (cc : Cond) (f : Flags) : condHolds cc f = true ↔ Claim.holds cc f := by
  cases cc with
  | nz => exact iff_of_eq (Bool.not_eq_true' f.z)
  | nc => exact iff_of_eq (Bool.not_eq_true' f.c)
  | z | c => exact Iff.rfl

@[simp] theorem tested_pc (s : State) (taken : Bool) : (Claim.tested s taken).pc = s.pc := rfl

theorem test_run (cc : Cond) (s : State) : (MicroOp.test cc).run s = Claim.tested s (condHolds cc s.flags) := rfl

section
variable {cc : Cond} {s : State} (n : MicroOp) (rest : List MicroOp)

/-- After a condition that holds, the rest of the schedule runs from the next M-cycle on. -/
theorem runSchedule_test_of_holds (h : Claim.holds cc s.flags) :
    runSchedule (.test cc :: n :: rest) s = runSchedule (n :: rest) (Claim.tested s true).tick := by
  have hc : condHolds cc s.flags = true := (condHolds_iff cc s.flags).2 h
  rw [runSchedule_test, if_pos hc, test_run, hc]

/-- A condition that fails ends the schedule in its own M-cycle. -/
theorem runSchedule_test_of_not_holds (h : ¬ Claim.holds cc s.flags) :
    runSchedule (.test cc :: n :: rest) s = Claim.tested s false := by
  have hc : condHolds cc s.flags ≠ true := mt (condHolds_iff cc s.flags).1 h
  rw [runSchedule_test, if_neg hc, test_run, Bool.eq_false_of_not_eq_true hc]

end

/-! ## What the M-cycles of a jump, a call and a return come to -/

theorem jumpRel_run_tick (e : Byte) (s : State) :
    (MicroOp.jumpRel e).run s.tick = { s.tick with pc := Claim.relative s.pc e } := by
  rw [MicroOp.run, tick_pc, add_sext16_eq_ofInt, Claim.relative]

/-- The M-cycles of a call after the one of the last fetch or of the condition (R275, R276, R280). -/
theorem runSchedule_call (nn : Word) (s : State) : runSchedule [.idle, .pushPcHi, .pushPcLoJump nn] s.tick =
    { Claim.pushed s.tick.tick (hiByte s.pc) (loByte s.pc) with pc := nn } := by
  rw [runSchedule_idle, runSchedule_step (fun _ => rfl), runSchedule_one]
  simp only [MicroOp.run, tick_pc, pushByte_pc, pushByte_tick_pushByte]

/-- The M-cycles of a return after the fetch or the condition (R277, R278). -/
theorem runSchedule_return (s : State) : runSchedule [.popLo, .popHi, .retJump] s.tick =
    { (Claim.popped s).tick with pc := mkWord (Claim.popped s).latches.hi (Claim.popped s).latches.lo } := by
  rw [runSchedule_step (fun _ => rfl), runSchedule_step (fun _ => rfl), runSchedule_one]
  simp only [MicroOp.run, popLo_tick_popHi, State.latched, tick_latches]

/-! ## The obligations -/

/-- Settles O35: a taken conditional jump is the unconditional one from the state that latched the condition, whose PC is the same. -/
theorem jumpsSetThePc : Obligations.JumpsSetThePc := by
  intro s nn e cc
  refine ⟨⟨encodedAs_of_word (by decide) (by decide) rfl rfl rfl, encodedAs_of_fetched (by decide) rfl rfl,
    encodedAs_of_fetched (by decide) rfl rfl, jpCC_encodedAs cc nn, jrCC_encodedAs cc e⟩,
    exec_of_idle_then (m := .jump nn) rfl, rfl, ?relative, fun h => ⟨?absTaken, ?relTaken⟩, fun h => ⟨?absNot, ?relNot⟩⟩
  case relative => rw [exec_of_idle_then (m := .jumpRel e) rfl, jumpRel_run_tick]
  case absTaken => rw [exec_jpCC, runSchedule_test_of_holds _ _ h, runSchedule_one, MicroOp.run]
  case relTaken => rw [exec_jrCC, runSchedule_test_of_holds _ _ h, runSchedule_one, jumpRel_run_tick, tested_pc]
  case absNot => rw [exec_jpCC, runSchedule_test_of_not_holds _ _ h]
  case relNot => rw [exec_jrCC, runSchedule_test_of_not_holds _ _ h]

/-- Settles O36: CALL, a taken CALL cc and RST end in the same M-cycles, which push the PC from before any tick. -/
theorem callsPushTheReturnAddress : Obligations.CallsPushTheReturnAddress := by
  intro s nn cc t
  have hcall : exec (.call_nn nn) s = .next (runSchedule [.idle, .idle, .pushPcHi, .pushPcLoJump nn] s) := rfl
  refine ⟨⟨encodedAs_of_word (by decide) (by decide) rfl rfl rfl, callCC_encodedAs cc nn, rst_encodedAs t⟩,
    ?call, fun h => ?taken, fun h => ?notTaken, ?rst⟩
  case call => rw [hcall, runSchedule_idle, runSchedule_call]
  case taken => rw [exec_callCC, runSchedule_test_of_holds _ _ h, runSchedule_call, tested_pc]
  case notTaken => rw [exec_callCC, runSchedule_test_of_not_holds _ _ h]
  case rst => rw [exec_rst, runSchedule_idle, runSchedule_call]

/-- Settles O37: RET pops from the fetch's state; RET cc does so from the state in which its second M-cycle latched the condition. -/
theorem returnsPopThePc : Obligations.ReturnsPopThePc := by
  intro s cc
  have hret : exec .ret s = .next (runSchedule [.idle, .popLo, .popHi, .retJump] s) := rfl
  refine ⟨encodedAs_of_fetched (by decide) rfl rfl, retCC_encodedAs cc, ?ret, fun h => ?taken, fun h => ?notTaken⟩
  case ret => rw [hret, runSchedule_idle, runSchedule_return]
  case taken =>
    rw [← tick_flags] at h
    rw [exec_retCC, runSchedule_idle, runSchedule_test_of_holds _ _ h, runSchedule_return]
  case notTaken =>
    rw [← tick_flags] at h
    rw [exec_retCC, runSchedule_idle, runSchedule_test_of_not_holds _ _ h]

end Sys2Proof.Machine
end

section
/-! PROOFS. The display controller's dots (60_exceptions.md section 7). A position in the frame is one number, `LY * 456 + dot`: a dot adds 1 to it
modulo the frame, whether or not a line ends, and the mode is a function of it alone. Mode entries, rendering and requests touch none of it. -/
namespace Sys2Proof.Machine

/-! ## The position in the frame (R351, R352, R353) -/

theorem position_lt {d : Lcd} (h : d.RangeOk) : Claim.position d < 70224 := by
  obtain ⟨hly, hdot, -, -⟩ := h
  unfold Claim.position
  omega

/-- With the dot in range, the mode the controller computes from LY and the dot is the one the position has. -/
theorem modeOf_eq_modeAt_position {d : Lcd} (h : d.dot < 456) : modeOf d.ly d.dot = Claim.modeAt (Claim.position d) := by
  have hline : 144 * 456 ≤ Claim.position d ↔ 144 ≤ d.ly.toNat := by unfold Claim.position; omega
  have hdot : Claim.position d % 456 = d.dot := by unfold Claim.position; omega
  simp only [modeOf, Claim.modeAt, hline, hdot]

theorem nextLine_toNat (ly : Byte) : (nextLine ly).toNat = (ly.toNat + 1) % 154 :=
  Nat.mod_eq_of_lt ((Nat.mod_lt _ (by decide)).trans (show 154 < 2 ^ 8 by decide))

/-- A dot within the line is the next position; the last dot of a line goes to the start of the next line, which is the next position too,
or the first of all after line 153. -/
theorem advanceDot_claimPosition {s : State} (h : s.lcd.RangeOk) :
    Claim.position s.advanceDot.lcd = (Claim.position s.lcd + 1) % 70224 := by
  obtain ⟨hly, hdot, -, -⟩ := h
  unfold State.advanceDot dotsPerLine Claim.position
  split
  · rw [updateCoincidence_lcd]
    simp only [nextLine_toNat]
    omega
  · dsimp only
    omega

theorem enterMode_claimPosition (s : State) : Claim.position s.enterMode.lcd = Claim.position s.lcd := by
  obtain ⟨hly, hdot, -⟩ := enterMode_position s
  rw [Claim.position, hly, hdot, Claim.position]

theorem dotTick_enabled (s : State) : s.dotTick.lcd.enabled = s.lcd.enabled := by
  rw [Lcd.enabled, dotTick_lcdc, Lcd.enabled]

theorem displayTick_enabled (n : Nat) (s : State) : (s.displayTick n).lcd.enabled = s.lcd.enabled := by
  rw [Lcd.enabled, displayTick_lcdc, Lcd.enabled]

theorem dotTick_claimPosition {s : State} (h : s.lcd.RangeOk) (hen : s.lcd.enabled = true) :
    Claim.position s.dotTick.lcd = (Claim.position s.lcd + 1) % 70224 := by
  rw [State.dotTick, if_pos hen, enterMode_claimPosition, advanceDot_claimPosition h]

/-- One dot at a time, n dots move the position by n modulo the frame. -/
theorem displayTick_claimPosition (n : Nat) {s : State} (h : s.lcd.RangeOk) (hen : s.lcd.enabled = true) :
    Claim.position (s.displayTick n).lcd = (Claim.position s.lcd + n) % 70224 := by
  induction n generalizing s with
  | zero => rw [State.displayTick, Nat.add_zero, Nat.mod_eq_of_lt (position_lt h)]
  | succ n ih =>
    rw [State.displayTick, ih (dotTick_range h) (by rw [dotTick_enabled, hen]), dotTick_claimPosition h hen, Nat.mod_add_mod,
      Nat.add_assoc, Nat.add_comm 1 n]

/-- Any number of dots, none included, keeps the mode that of LY and the dot. -/
theorem displayTick_modeOk (n : Nat) {s : State} (h : s.lcd.ModeOk) : (s.displayTick n).lcd.ModeOk := by
  cases n with
  | zero => exact h
  | succ n => exact displayTick_mode n s

theorem mode_eq_modeAt_position {d : Lcd} (hr : d.RangeOk) (hm : d.ModeOk) (hen : d.enabled = true) :
    d.mode = Claim.modeAt (Claim.position d) := by
  rw [Lcd.ModeOk, if_pos hen] at hm
  rw [hm, modeOf_eq_modeAt_position hr.2.1]

/-! ## The obligation -/

/-- Settles O55: the dots keep the display enabled, its ranges and its mode, so after them the mode is still that of the position, which moved
one further with every dot. -/
theorem dotsMoveThroughTheFrame : Obligations.DotsMoveThroughTheFrame := by
  intro s n hrange hmode hen
  have hen' : (s.displayTick n).lcd.enabled = true := by rw [displayTick_enabled, hen]
  exact ⟨displayTick_claimPosition n hrange hen,
    mode_eq_modeAt_position (displayTick_range n hrange) (displayTick_modeOk n hmode) hen', hen'⟩

end Sys2Proof.Machine
end

section
/-! PROOFS. The codec (30_encoding.md). The decoder is written from the field patterns and the encoder from the opcode maps; that they are
one relation is a finite fact about opcodes once the operand bytes are named. Only STOP has a byte that is not fetched. -/
namespace Sys2Proof

/-! ## Decoding an encoding -/

/-- A word operand is decoded from its two bytes, low byte first (R111). -/
theorem decodeFetched_word {op : Byte} (hcb : op ≠ 0xCB) (hlen : fetchedLength op = 3) (nn : Word) (rest : List Byte) :
    decodeFetched (op :: loByte nn :: hiByte nn :: rest) = .ok (decodeBase op 0 nn, rest) := by
  rw [decode_three hcb hlen, mkWord_hiByte_loByte]

/-- The fetched bytes of an instruction decode to it: an equation of the two maps, opcode by opcode, up to the word operands. -/
theorem decodeFetched_encodeFetched {i : Instr} (hi : i ≠ .cbPrefix) (rest : List Byte) :
    decodeFetched (encodeFetched i ++ rest) = .ok (i, rest) := by
  cases i
  case cbPrefix => exact absurd rfl hi
  case ld_BC_nn nn | ld_DE_nn nn | ld_HL_nn nn | ld_SP_nn nn | ld_atnn_SP nn | ld_atnn_A nn | ld_A_atnn nn | jp_nn nn | jp_NZ_nn nn |
    jp_Z_nn nn | jp_NC_nn nn | jp_C_nn nn | call_nn nn | call_NZ_nn nn | call_Z_nn nn | call_NC_nn nn | call_C_nn nn =>
    exact decodeFetched_word (by decide) rfl nn rest
  all_goals rfl

theorem ne_cbPrefix_of_wellFormed {i : Instr} (h : i.wellFormed = true) : i ≠ .cbPrefix := of_decide_eq_true h

/-! ## The ignored byte of STOP -/

/-- 0x10 begins STOP alone (R111). -/
theorem eq_stop_of_head {i : Instr} {rest tail : List Byte} (h : decodeFetched (0x10 :: rest) = .ok (i, tail)) :
    i = .stop ∧ tail = rest := by
  have hstop : decodeFetched (0x10 :: rest) = .ok (.stop, rest) := rfl
  rw [hstop] at h
  cases h
  exact ⟨rfl, rfl⟩

/-- An instruction has an opcode byte, and it is 0x10 for STOP alone. -/
theorem encodeFetched_head {i : Instr} (hi : i ≠ .cbPrefix) :
    ∃ op bs, encodeFetched i = op :: bs ∧ (op = 0x10 → i = .stop) := by
  have hd := decodeFetched_encodeFetched hi []
  rw [List.append_nil] at hd
  cases he : encodeFetched i with
  | nil => rw [he] at hd; cases hd
  | cons op bs =>
    refine ⟨op, bs, rfl, ?_⟩
    rintro rfl
    rw [he] at hd
    exact (eq_stop_of_head hd).1

/-- The encoding of an instruction by its opcode byte: the fetched bytes, and after 0x10 what the mode of STOP adds. -/
theorem encode_eq {i : Instr} {op : Byte} {bs : List Byte} (he : encodeFetched i = op :: bs) (mode : StopMode) (ignored : Byte) :
    encode mode ignored i = op :: (bs ++ List.replicate (ignoredBytes mode op) ignored) := by
  rw [encode, he, List.headD_cons, List.cons_append]

theorem decode_encode {i : Instr} (hi : i ≠ .cbPrefix) (mode : StopMode) (ignored : Byte) (rest : List Byte) :
    decode mode (encode mode ignored i ++ rest) = .ok (i, rest) := by
  obtain ⟨op, bs, he, hstop⟩ := encodeFetched_head hi
  by_cases hop : op = 0x10
  · cases hstop hop
    cases mode with
    | skip1 => exact decode_stop_skip1 ignored rest
    | nop1 => exact decode_stop_nop1 rest
  · have hd := decodeFetched_encodeFetched hi rest
    rw [he] at hd
    rw [encode_eq he, ignoredBytes_of_ne mode hop, List.replicate_zero, List.append_nil]
    exact decode_of_fetched mode hd hop

/-- Settles O1: the fetched bytes decode opcode by opcode, and of all opcodes only STOP's has an ignored byte, which each mode treats alike in
the encoder and the decoder. -/
theorem decodeAfterEncodeIsTheInstruction : Obligations.DecodeAfterEncodeIsTheInstruction := fun _ rest hwf =>
  have hi := ne_cbPrefix_of_wellFormed hwf
  ⟨fun mode ignored => decode_encode hi mode ignored rest, decodeFetched_encodeFetched hi rest⟩

/-! ## Encoding what was decoded -/

theorem encodeFetched_decodeCb (cbop : Byte) : encodeFetched (decodeCb cbop) = [0xCB, cbop] := by
  revert cbop
  decide

theorem encodeFetched_decodeBase_one {op : Byte} (hcb : op ≠ 0xCB) (h : fetchedLength op = 1) :
    encodeFetched (decodeBase op 0 0) = [op] := by
  revert op
  decide

/-- The statement's lists of opcodes are the decoder's lengths (R111, R119). -/
theorem fetchedOf_eq (op : Byte) : Claim.fetchedOf op = fetchedLength op := by
  revert op
  decide

/-- The two-byte opcodes but the one before a CB byte. -/
theorem mem_twoByteOpcodes {op : Byte} (hcb : op ≠ 0xCB) (h : fetchedLength op = 2) : op ∈ Claim.twoByteOpcodes.erase 0xCB := by
  revert op
  decide

theorem mem_threeByteOpcodes {op : Byte} (h : fetchedLength op = 3) : op ∈ Claim.threeByteOpcodes := by
  revert op
  decide

theorem encodeFetched_decodeBase_two {op : Byte} (hcb : op ≠ 0xCB) (h : fetchedLength op = 2) (n : Byte) :
    encodeFetched (decodeBase op n 0) = [op, n] := by
  have hmem := mem_twoByteOpcodes hcb h
  fin_cases hmem <;> rfl

theorem encodeFetched_decodeBase_three {op : Byte} (h : fetchedLength op = 3) (nn : Word) :
    encodeFetched (decodeBase op 0 nn) = [op, loByte nn, hiByte nn] := by
  have hmem := mem_threeByteOpcodes h
  fin_cases hmem <;> rfl

/-- A word made of two bytes has those bytes. -/
theorem encodeFetched_decodeBase_mkWord {op : Byte} (h : fetchedLength op = 3) (lo hi : Byte) :
    encodeFetched (decodeBase op 0 (mkWord hi lo)) = [op, lo, hi] := by
  rw [encodeFetched_decodeBase_three h, loByte_mkWord, hiByte_mkWord]

/-- Bytes that lack do not decode. -/
theorem decodeFetched_truncated {op : Byte} {bs : List Byte} (hcb : op ≠ 0xCB) (h : bs.length + 1 < fetchedLength op) :
    decodeFetched (op :: bs) = .error (.truncated op) := by
  have hif : decodeFetched (op :: bs) = _ := if_neg hcb
  rw [hif]
  rcases fetchedLength_cases op with hlen | hlen | hlen <;> rw [hlen] at h ⊢
  · exact absurd h (by simp)
  · match bs with
    | [] => rfl
    | _ :: _ => exact absurd h (by simp)
  · match bs with
    | [] | [_] => rfl
    | _ :: _ :: _ => exact absurd h (by simp)

/-- Bytes that decode, by the fetched length of the first one. -/
theorem eq_encodeFetched_of_decodeFetched {bytes rest : List Byte} {i : Instr} (hi : i ≠ .cbPrefix)
    (h : decodeFetched bytes = .ok (i, rest)) : bytes = encodeFetched i ++ rest := by
  cases bytes with
  | nil => cases h
  | cons op bs =>
    by_cases hcb : op = 0xCB
    · subst hcb
      cases bs with
      | nil => cases h; exact absurd rfl hi
      | cons cbop bs => cases h; rw [encodeFetched_decodeCb]; rfl
    · rcases fetchedLength_cases op with hlen | hlen | hlen
      · rw [decode_one hcb hlen] at h
        cases h
        rw [encodeFetched_decodeBase_one hcb hlen]; rfl
      · match bs with
        | [] => rw [decodeFetched_truncated hcb (hlen ▸ by simp)] at h; cases h
        | n :: bs =>
          rw [decode_two hcb hlen] at h
          cases h
          rw [encodeFetched_decodeBase_two hcb hlen]; rfl
      · match bs with
        | [] | [_] => rw [decodeFetched_truncated hcb (hlen ▸ by simp)] at h; cases h
        | lo :: hi' :: bs =>
          rw [decode_three hcb hlen] at h
          cases h
          rw [encodeFetched_decodeBase_mkWord hlen]; rfl

/-- What a whole decoding is: that of the fetched bytes, and after them the ignored byte of STOP, which must be there. -/
theorem decode_cases {mode : StopMode} {bytes rest : List Byte} {i : Instr} (h : decode mode bytes = .ok (i, rest)) :
    ∃ tail, decodeFetched bytes = .ok (i, tail) ∧ ignoredBytes mode (bytes.headD 0) ≤ tail.length ∧
      rest = tail.drop (ignoredBytes mode (bytes.headD 0)) := by
  unfold decode at h
  split at h
  · cases h
  next j tail hd =>
    dsimp only at h
    split at h
    · cases h
    next hlen =>
      cases h
      exact ⟨tail, hd, Nat.le_of_not_lt hlen, rfl⟩

theorem decode_of_decodeFetched {mode : StopMode} {bytes tail : List Byte} {i : Instr} (h : decodeFetched bytes = .ok (i, tail))
    (hlen : ignoredBytes mode (bytes.headD 0) ≤ tail.length) :
    decode mode bytes = .ok (i, tail.drop (ignoredBytes mode (bytes.headD 0))) := by
  rw [decode, h]
  exact if_neg (Nat.not_lt_of_le hlen)

/-- Bytes that decode are an encoding: STOP's ignored byte is the one that stands there. -/
theorem eq_encode_of_decode {mode : StopMode} {bytes rest : List Byte} {i : Instr} (hi : i ≠ .cbPrefix)
    (h : decode mode bytes = .ok (i, rest)) : ∃ ignored, bytes = encode mode ignored i ++ rest := by
  obtain ⟨tail, hd, hlen, rfl⟩ := decode_cases h
  obtain rfl := eq_encodeFetched_of_decodeFetched hi hd
  obtain ⟨op, bs, he, hstop⟩ := encodeFetched_head hi
  have hhead : (encodeFetched i ++ tail).headD 0 = op := by rw [he]; rfl
  rw [hhead] at hlen ⊢
  by_cases hop : op = 0x10
  · cases hstop hop
    subst hop
    cases mode with
    | nop1 => exact ⟨0, rfl⟩
    | skip1 =>
      match tail with
      | [] => exact absurd hlen (by decide)
      | x :: tail => exact ⟨x, rfl⟩
  · refine ⟨0, ?_⟩
    rw [encode_eq he, ignoredBytes_of_ne mode hop, he, List.replicate_zero, List.append_nil, List.drop_zero]

/-- Settles O2: each opcode's instruction encodes to that opcode and the operand bytes it was given. -/
theorem encodeAfterDecodeIsTheBytes : Obligations.EncodeAfterDecodeIsTheBytes := fun _ _ _ hwf =>
  have hi := ne_cbPrefix_of_wellFormed hwf
  ⟨fun _ h => eq_encode_of_decode hi h, fun h => eq_encodeFetched_of_decodeFetched hi h⟩

/-! ## The length of the first byte -/

theorem wellFormed_of_encodeFetched {i : Instr} {op : Byte} {bs : List Byte} (he : encodeFetched i = op :: bs)
    (hne : op :: bs ≠ [0xCB]) : i.wellFormed = true := by
  refine decide_eq_true ?_
  rintro rfl
  exact hne he.symm

/-- As many bytes as the first one asks for are an instruction: its encoding, with the bytes after them left over (R110, R141). -/
theorem exists_decodeFetched {op : Byte} {rest : List Byte} (hlen : fetchedLength op ≤ rest.length + 1) :
    ∃ i operands, encodeFetched i = op :: operands ∧ op :: operands ≠ [0xCB] ∧ operands.length + 1 = fetchedLength op ∧
      rest = operands ++ rest.drop (fetchedLength op - 1) := by
  by_cases hcb : op = 0xCB
  · subst hcb
    match rest with
    | [] => exact absurd hlen (by decide)
    | cbop :: rest => exact ⟨decodeCb cbop, [cbop], encodeFetched_decodeCb cbop, by simp, rfl, rfl⟩
  · have hne (operands : List Byte) : op :: operands ≠ [0xCB] := fun h => hcb (List.cons.inj h).1
    rcases fetchedLength_cases op with h | h | h <;> rw [h] at hlen ⊢
    · exact ⟨_, [], encodeFetched_decodeBase_one hcb h, hne _, rfl, rfl⟩
    · match rest with
      | [] => simp at hlen
      | n :: rest => exact ⟨_, [n], encodeFetched_decodeBase_two hcb h n, hne _, rfl, rfl⟩
    · match rest with
      | [] | [_] => simp at hlen
      | lo :: hi :: rest => exact ⟨_, [lo, hi], encodeFetched_decodeBase_mkWord h lo hi, hne _, rfl, rfl⟩

/-- The length of the statement, with the ignored byte of STOP apart (R111). -/
theorem lengthOf_eq (mode : StopMode) (op : Byte) : Claim.lengthOf mode op = fetchedLength op + ignoredBytes mode op := by
  cases mode <;> revert op <;> decide

/-- Settles O3: the bytes the first one asks for are the encoding of an instruction, so the round trip of O1 decodes them, before any rest. -/
theorem everyOpcodeDecodesByItsLength : Obligations.EveryOpcodeDecodesByItsLength := by
  intro mode op rest hlen
  rw [lengthOf_eq, fetchedOf_eq] at *
  obtain ⟨i, operands, he, hne, hcount, hrest⟩ := exists_decodeFetched (op := op) (rest := rest) (by omega)
  have hwf := wellFormed_of_encodeFetched he hne
  have hi := ne_cbPrefix_of_wellFormed hwf
  have hd := decodeFetched_encodeFetched hi
  rw [he] at hd
  have htake : rest.take (fetchedLength op - 1) = operands := by
    rw [hrest, ← hcount, Nat.add_sub_cancel]
    simp
  have hfetched : decodeFetched (op :: rest) = .ok (i, rest.drop (fetchedLength op - 1)) := by
    conv_lhs => rw [hrest]
    exact hd _
  refine ⟨i, hwf, ?decodes, fun ignored => ?length, ?fetched, ?fetchedLength⟩
  case decodes =>
    rw [decode_of_decodeFetched hfetched (by rw [List.headD_cons, List.length_drop]; omega), List.headD_cons, List.drop_drop]
    congr 3
    omega
  case length => rw [encode_eq he, List.length_cons, List.length_append, List.length_replicate]; omega
  case fetched => rw [htake, ← List.append_nil (op :: operands)]; exact hd []
  case fetchedLength => rw [he, List.length_cons, hcount]

/-! ## The maps' own words -/

/-- Settles O4: each of the words is evaluated. -/
theorem wordsDecodeAsTheMapsSay : Obligations.WordsDecodeAsTheMapsSay := by
  repeat' apply And.intro
  all_goals rfl

end Sys2Proof
end

section
/-! PROOFS. The step (40_execution_engine.md sections 1 and 2). At a boundary a step is one of three branches, each an equation of Laws/Step;
every one ends with the peripherals' tick, which is why the invariant of a boundary needs no more than what every M-cycle keeps. -/
namespace Sys2Proof.Machine

/-! ## Fetches as the rules write them (R137, R139, R140) -/

theorem fetchByte_tick (op : Byte) (s : State) : (s.tick.fetchByte op).2 = Claim.byteFetched op s := by
  rw [State.fetchByte, tick_pc, tick_latches]
  rfl

theorem fetchThird_tick {op : Byte} (hcb : op ≠ 0xCB) (lo : Byte) (u : State) :
    u.tick.fetchThird op lo = ([op, lo, u.tick.memRead u.pc],
      { u.tick with pc := u.pc + 1, latches := { u.latches with t := u.tick.memRead u.pc, hi := u.tick.memRead u.pc } }) := by
  have hthird : u.tick.fetchThird op lo = ([op, lo, u.tick.memRead u.tick.pc], { (u.tick.fetchByte op).2 with
    latches := { (u.tick.fetchByte op).2.latches with hi := u.tick.memRead u.tick.pc } }) := rfl
  rw [hthird, fetchByte_tick, Claim.byteFetched, if_neg hcb, tick_pc]

/-- The two operand bytes of a three-byte instruction, each read in an M-cycle of its own. -/
theorem fetchSecond_word {op : Byte} (h : fetchedLength op = 3) (s : State) : s.tick.fetchSecond op =
    ([op, s.tick.memRead s.pc, (Claim.wordFetched op s).latches.hi], Claim.wordFetched op s) := by
  have hcb : op ≠ 0xCB := by rintro rfl; exact absurd h (by decide)
  rw [fetchSecond_three h, fetchByte_tick, tick_pc, fetchThird_tick hcb]
  rfl

/-! ## A step that fetches -/

section
variable {s : State} (h : Claim.Fetches s)
include h

theorem step_of_fetches : step s = execute (State.fetchInstr { s with halted := false }) := by
  obtain ⟨⟨hacc, hnone⟩, hdue, hhalted⟩ := h
  exact step_execute hacc hnone hdue hhalted

theorem step_of_one {i : Instr} (hlen : fetchedLength (s.memRead s.pc) = 1) (hd : decodeFetched [s.memRead s.pc] = .ok (i, [])) :
    step s = Claim.completed (exec i (Claim.opcodeFetched s)) := by
  rw [step_of_fetches h, fetchInstr_one (s := { s with halted := false }) hlen]
  exact execute_ok _ hd

/-- A longer instruction: one M-cycle after the opcode's, the fetches go on. -/
theorem step_of_more (hlen : fetchedLength (s.memRead s.pc) ≠ 1) :
    step s = execute ((Claim.opcodeFetched s).tick.fetchSecond (s.memRead s.pc)) := by
  rw [step_of_fetches h, fetchInstr_more (s := { s with halted := false }) hlen]
  rfl

theorem step_of_two {i : Instr} (hlen : fetchedLength (s.memRead s.pc) = 2)
    (hd : decodeFetched [s.memRead s.pc, (Claim.opcodeFetched s).tick.memRead (Claim.opcodeFetched s).pc] = .ok (i, [])) :
    step s = Claim.completed (exec i (Claim.byteFetched (s.memRead s.pc) (Claim.opcodeFetched s))) := by
  rw [step_of_more h (by omega), fetchSecond_two hlen, fetchByte_tick, tick_pc]
  exact execute_ok _ hd

theorem step_of_three {i : Instr} (hlen : fetchedLength (s.memRead s.pc) = 3)
    (hd : decodeFetched [s.memRead s.pc, (Claim.opcodeFetched s).tick.memRead (Claim.opcodeFetched s).pc,
      (Claim.wordFetched (s.memRead s.pc) (Claim.opcodeFetched s)).latches.hi] = .ok (i, [])) :
    step s = Claim.completed (exec i (Claim.wordFetched (s.memRead s.pc) (Claim.opcodeFetched s))) := by
  rw [step_of_more h (by omega), fetchSecond_word hlen]
  exact execute_ok _ hd

end

/-- Settles O5: the three lengths of a fetch sequence. -/
theorem stepRunsTheDecodedInstruction : Obligations.StepRunsTheDecodedInstruction := by
  intro s h
  dsimp only
  simp only [fetchedOf_eq]
  exact ⟨fun _ hd hlen => step_of_one h hlen hd, fun _ hd hlen => step_of_two h hlen hd, fun _ hd hlen => step_of_three h hlen hd⟩

/-- Settles O6: idle is a branch of its own; with IME = 0 and an interrupt pending the flag `halted` selects no branch. -/
theorem haltedEngineIdlesUntilPending : Obligations.HaltedEngineIdlesUntilPending := by
  rintro s ⟨hacc, hnone⟩ hhalted
  refine ⟨step_idle hacc hnone hhalted, fun hpending hime => ?_⟩
  have hdue : ¬ (s.ime = true ∧ s.pending ≠ 0) := by rw [hime]; exact fun h => absurd h.1 (by decide)
  rw [step_execute hacc hnone hdue (fun h => hpending h.2),
    step_execute (s := { s with halted := false }) hacc hnone hdue (fun h => hpending h.2)]

/-! ## What ends a step -/

section
variable {P : State → Prop} (hf : ∀ s, P s → ∀ pc hb la, P { s with pc := pc, haltBug := hb, latches := la })
include hf

theorem fetchThird_keeps (op lo : Byte) {s : State} (h : P s) : P (s.fetchThird op lo).2 := hf s h _ s.haltBug _

variable (ht : ∀ s, P s → P s.tick)
include ht

theorem fetchSecond_keeps (op : Byte) {s : State} (h : P s) : P (s.fetchSecond op).2 := by
  have hbyte : P (s.fetchByte op).2 := hf s h _ s.haltBug _
  unfold State.fetchSecond
  dsimp only
  split
  · exact hbyte
  · exact fetchThird_keeps hf _ _ (ht _ (hf _ hbyte (s.fetchByte op).2.pc s.haltBug _))

/-- A step ends with a tick, and what ticks, fetches, M-cycles and the engine's bookkeeping keep, the step kept up to that tick. -/
theorem exists_tick_of_step (hm : ∀ (m : MicroOp) s, P s → P (m.run s)) (hh : ∀ s, P s → P { s with halted := false })
    (hi : ∀ s, P s → P { s with inflight := .none }) (he : ∀ s, P s → P s.eiTick) {s t : State} (h : P s)
    (hs : step s = .next t) : ∃ u, t = u.tick ∧ P u := by
  have hrun (ms : List MicroOp) {u : State} (hu : P u) : P (runSchedule ms u) := runSchedule_keeps ht ms (fun m _ => hm m) u hu
  have hexecute {f : List Byte × State} (hp : P f.2) (hx : execute f = .next t) : ∃ u, t = u.tick ∧ P u := by
    obtain ⟨i, rest, u, -, hu, rfl⟩ := execute_next hx
    exact ⟨u.eiTick, rfl, he _ (exec_keeps ht hf (fun m _ => hm m) hp hu)⟩
  obtain ⟨-, ⟨-, -, -, rfl⟩ | ⟨-, -, -, rfl⟩ | ⟨-, -, -, hx⟩ | ⟨op, -, hx⟩ | ⟨op, lo, -, hx⟩ | ⟨kind, m, rest, -, rfl⟩⟩ := step_cases hs
  · exact ⟨s.takeInterrupt, rfl, hrun _ (hh s h)⟩
  · exact ⟨s, rfl, h⟩
  · exact hexecute (fetchInstr_keeps ht hf (hh s h)) hx
  · exact hexecute (fetchSecond_keeps hf ht op (hi s h)) hx
  · exact hexecute (fetchThird_keeps hf op lo (hi s h)) hx
  · refine ⟨_, rfl, ?_⟩
    cases kind with
    | instruction => exact hi _ (he _ (hrun _ h))
    | service => exact hi _ (hrun _ h)

end

/-- What every M-cycle keeps says nothing of the engine's sequencing. -/
theorem coreOk_of_engine {s : State} (h : s.CoreOk) (pc : Word) (hb ha : Bool) (la : Latches) (w : Inflight) :
    State.CoreOk { s with pc := pc, haltBug := hb, halted := ha, latches := la, inflight := w } :=
  h.congr ⟨rfl, rfl, rfl, rfl, rfl, rfl⟩ ⟨rfl, rfl⟩ ⟨rfl, rfl, rfl, rfl, rfl⟩

/-- Settles O16: up to its last tick a step keeps what every M-cycle keeps and leaves nothing in flight; the tick sets the mode. -/
theorem stepKeepsTheInvariant : Obligations.StepKeepsTheInvariant := by
  intro s t hok hs
  obtain ⟨u, rfl, hcore, hidle⟩ := exists_tick_of_step (P := fun u => u.CoreOk ∧ u.inflight = .none)
    (fun s h pc hb la => ⟨coreOk_of_engine h.1 .., h.2⟩) (fun s h => ⟨tick_coreOk h.1, (tick_inflight s).trans h.2⟩)
    (fun m s h => ⟨run_coreOk m h.1, (run_inflight m s).trans h.2⟩) (fun s h => ⟨coreOk_of_engine h.1 .., h.2⟩)
    (fun s h => ⟨coreOk_of_engine h.1 .., rfl⟩) (fun s h => ⟨eiTick_coreOk h.1, (eiTick_inflight s).trans h.2⟩)
    ⟨hok.core, hok.idle⟩ hs
  exact ⟨tick_coreOk hcore, tick_modeOk u, (tick_inflight u).trans hidle⟩

end Sys2Proof.Machine
end

section
/-! PROOFS. Reset (70_reset_and_hazards.md section 1), and what no step undoes. -/
namespace Sys2Proof.Machine

/-! ## Reset -/

theorem resetBoot_pairs (p : Params) (ram : RamInit) :
    (State.resetBoot p ram).af = 0x0000 ∧ (State.resetBoot p ram).bc = 0x0000 ∧ (State.resetBoot p ram).de = 0x0000 ∧
    (State.resetBoot p ram).hl = 0x0000 := by
  have hzero : mkWord 0x00 0x00 = 0x0000 := by decide
  have haf : mkWord 0x00 (Flags.pack { z := false, n := false, h := false, c := false }) = 0x0000 := by decide
  exact ⟨haf, hzero, hzero, hzero⟩

theorem resetPostBoot_pairs (p : Params) (ram : RamInit) :
    (State.resetPostBoot p ram).af = 0x01B0 ∧ (State.resetPostBoot p ram).bc = 0x0013 ∧ (State.resetPostBoot p ram).de = 0x00D8 ∧
    (State.resetPostBoot p ram).hl = 0x014D := by
  have haf : mkWord 0x01 (Flags.pack { z := true, n := false, h := true, c := true }) = 0x01B0 := by decide
  have hbc : mkWord 0x00 0x13 = 0x0013 := by decide
  have hde : mkWord 0x00 0xD8 = 0x00D8 := by decide
  have hhl : mkWord 0x01 0x4D = 0x014D := by decide
  exact ⟨haf, hbc, hde, hhl⟩

/-- Settles O14: the two states are written out, so every value is read off them. -/
theorem resetLeavesTheProfilesValues : Obligations.ResetLeavesTheProfilesValues := by
  intro p ram
  obtain ⟨haf, hbc, hde, hhl⟩ := resetBoot_pairs p ram
  obtain ⟨haf', hbc', hde', hhl'⟩ := resetPostBoot_pairs p ram
  refine ⟨rfl, ⟨haf, hbc, hde, hhl, rfl, rfl⟩, ⟨haf', hbc', hde', hhl', rfl, rfl⟩, ?both, ⟨rfl, rfl, rfl, rfl⟩, ⟨rfl, rfl⟩,
    ⟨rfl, rfl⟩, ⟨rfl, rfl⟩⟩
  intro s hs
  obtain rfl | rfl : s = State.resetFor .boot p ram ∨ s = State.resetFor .postBoot p ram := by simpa using hs
  all_goals exact ⟨rfl, rfl, rfl, rfl, rfl, rfl, rfl, rfl, rfl, rfl, rfl, rfl, rfl, rfl, rfl, rfl, rfl, rfl⟩

/-- The devices and the engine's ranges at reset, which neither the parameters nor the RAM contents have a part in. -/
theorem reset_devices_ok (profile : ResetProfile) :
    let s := State.resetFor profile Params.default RamInit.unlisted
    s.EngineOk ∧ s.timer.Ok ∧ s.dma.Ok ∧ s.mbc1.Ok ∧ s.lcd.ModeOk := by
  unfold State.EngineOk Timer.Ok Dma.Ok Mbc1.Ok Lcd.ModeOk
  cases profile <;> decide

theorem whiteFrame_frameOk : FrameOk whiteFrame :=
  ⟨List.length_replicate, fun _ h => (List.eq_of_mem_replicate h) ▸ List.length_replicate⟩

theorem reset_lcd_rangeOk (profile : ResetProfile) : (State.resetFor profile Params.default RamInit.unlisted).lcd.RangeOk := by
  cases profile <;> exact ⟨by decide, by decide, rfl, whiteFrame_frameOk⟩

/-- Of the invariant at reset only the memory is the caller's. -/
theorem resetFor_ok (profile : ResetProfile) (p : Params) (ram : RamInit) (h : (State.resetFor profile p ram).MemoryOk) :
    (State.resetFor profile p ram).Ok := by
  obtain ⟨hengine, htimer, hdma, hmbc1, hmode⟩ := reset_devices_ok profile
  have hrange := reset_lcd_rangeOk profile
  cases profile <;> exact ⟨⟨h, hengine, htimer, hrange, hdma, hmbc1, fun _ hf => absurd hf List.not_mem_nil⟩, hmode, rfl⟩

/-- Settles O15: the contents of RAM are the caller's, everything else is the profile's. -/
theorem resetMeetsTheInvariant : Obligations.ResetMeetsTheInvariant := by
  refine ⟨resetFor_ok .boot Params.default RamInit.unlisted ?_, ?_⟩
  · simp [State.MemoryOk, State.resetFor, State.resetBoot, RamInit.unlisted, Memory.wf]
  · intro profile p ram hv hv' hw hw' ho ho' hh hh' he he'
    refine resetFor_ok profile p ram ?_
    cases profile <;> exact ⟨⟨hv, hv'⟩, ⟨hw, hw'⟩, ⟨ho, ho'⟩, ⟨hh, hh'⟩, ⟨he, he'⟩⟩

/-! ## What grows or stays -/

/-- The state comes after another and nothing was undone: the overlay not enabled again, the clock not turned back, the logs extended at
their ends, the parameters the same. -/
structure State.Follows (t s : State) : Prop where
  boot : s.bootEnabled = false → t.bootEnabled = false
  clock : s.clock ≤ t.clock
  diagnostics : s.diagnostics <+: t.diagnostics
  frames : s.frames <+: t.frames
  params : t.params = s.params

theorem State.Follows.refl (s : State) : s.Follows s := ⟨id, Nat.le_refl _, List.prefix_rfl, List.prefix_rfl, rfl⟩

theorem State.Follows.trans {s t u : State} (hu : u.Follows t) (ht : t.Follows s) : u.Follows s :=
  ⟨fun h => hu.boot (ht.boot h), ht.clock.trans hu.clock, ht.diagnostics.trans hu.diagnostics, ht.frames.trans hu.frames,
    hu.params.trans ht.params⟩

/-- A frame is appended at VBlank, and no other entry touches the list (R357, R369). -/
theorem onEnter_frames_eq (s : State) (m : Mode) :
    (s.onEnter m).frames = if m = .vblank then s.frames ++ [s.lcd.frame] else s.frames := by
  cases m <;> simp [State.onEnter]

theorem enterMode_frames_prefix (s : State) : s.frames <+: s.enterMode.frames := by
  simp only [State.enterMode]
  split
  · exact List.prefix_rfl
  · rw [onEnter_frames_eq]
    split
    · exact List.prefix_append _ _
    · exact List.prefix_rfl

theorem advanceDot_frames (s : State) : s.advanceDot.frames = s.frames := by
  unfold State.advanceDot
  split
  · rw [updateCoincidence_frames]
  · rfl

theorem dotTick_frames_prefix (s : State) : s.frames <+: s.dotTick.frames := by
  unfold State.dotTick
  split
  · exact advanceDot_frames s ▸ enterMode_frames_prefix s.advanceDot
  · exact List.prefix_rfl

theorem displayTick_frames_prefix (n : Nat) (s : State) : s.frames <+: (s.displayTick n).frames := by
  induction n generalizing s with
  | zero => exact List.prefix_rfl
  | succ n ih => exact (dotTick_frames_prefix s).trans (ih s.dotTick)

theorem tick_follows (s : State) : s.tick.Follows s where
  boot := by rw [tick_bootEnabled]; exact id
  clock := by rw [tick_clock]; exact Nat.le_add_right _ _
  diagnostics := by rw [tick_diagnostics]
  frames := by rw [tick_frames]; exact displayTick_frames_prefix 4 s
  params := tick_params s

/-- No write enables the boot overlay (R76). -/
theorem memWrite_boot {s : State} (h : s.bootEnabled = false) (a : Word) (v : Byte) : (s.memWrite a v).bootEnabled = false := by
  refine memWrite_keeps (P := fun s => s.bootEnabled = false) h (busWrite_cases (P := fun s => s.bootEnabled = false) s a v
    ?rom ?vram ?eram ?wram ?echo ?oam ?joypad ?timer ?iflag ?dma ?lcd ?boot ?hram ?ie h)
  case rom => intro _; unfold State.writeRom; split <;> exact h
  case eram => intro _ _; unfold State.writeEram; split <;> exact h
  case lcd => intro _ _; rw [writeLcdReg_other]; exact h
  case boot => intro _; unfold State.writeBoot; split; exacts [h, rfl]
  all_goals intros; exact h

theorem run_boot (m : MicroOp) {s : State} (h : s.bootEnabled = false) : (m.run s).bootEnabled = false := by
  by_cases hv : m = .vector
  · subst hv; exact (enterVector_bootEnabled s).trans h
  · exact (run_memory State.bootEnabled (fun _ _ _ _ _ _ _ _ _ _ _ => rfl) m hv s
      (fun _ _ _ _ hu _ _ _ => (memWrite_boot (hu.trans h) _ _).trans h.symm)).trans h

theorem run_diagnostics_prefix (m : MicroOp) (s : State) : s.diagnostics <+: (m.run s).diagnostics := by
  by_cases h : ∃ op, m = .diagnose op
  · obtain ⟨op, rfl⟩ := h
    exact List.prefix_append _ _
  · rw [run_diagnostics (fun op hop => h ⟨op, hop⟩)]

theorem run_follows (m : MicroOp) (s : State) : (m.run s).Follows s where
  boot := run_boot m
  clock := (run_clock m s).ge
  diagnostics := run_diagnostics_prefix m s
  frames := by rw [run_frames]
  params := run_params m s

/-- Settles O17: nothing in a step undoes any of it, and the tick that ends the step moves the clock. -/
theorem stepsNeverUndoTheseThings : Obligations.StepsNeverUndoTheseThings := by
  intro s t hs
  obtain ⟨u, rfl, hu⟩ := exists_tick_of_step (P := fun u => u.Follows s)
    (fun u h _ _ _ => ⟨h.boot, h.clock, h.diagnostics, h.frames, h.params⟩) (fun u h => (tick_follows u).trans h)
    (fun m u h => (run_follows m u).trans h) (fun u h => ⟨h.boot, h.clock, h.diagnostics, h.frames, h.params⟩)
    (fun u h => ⟨h.boot, h.clock, h.diagnostics, h.frames, h.params⟩)
    (fun u h => ⟨by simpa using h.boot, by simpa using h.clock, by simpa using h.diagnostics, by simpa using h.frames,
      by simpa using h.params⟩)
    (State.Follows.refl s) hs
  obtain ⟨hboot, -, ⟨d, hd⟩, ⟨f, hf⟩, hparams⟩ := (tick_follows u).trans hu
  exact ⟨hboot, by rw [tick_clock]; exact Nat.lt_of_le_of_lt hu.clock (by omega), ⟨d, hd.symm⟩, ⟨f, hf.symm⟩, hparams⟩

end Sys2Proof.Machine
end

section
/-! PROOFS. What an instruction answers (40_execution_engine.md sections 1 and 2): a next state, or the one refusal; undefined opcodes; the byte
after 0xCB; engine control; and the EI delay. -/
namespace Sys2Proof.Machine

/-! ## Undefined opcodes (R121, R149) -/

/-- An instruction whose schedule begins with the diagnostic is the undefined opcode it reports. -/
theorem mem_undefinedOpcodes_of_schedule {i : Instr} {op : Byte} (h : schedule i = [.diagnose op]) :
    (op, i) ∈ Instr.undefinedOpcodes := by
  cases i <;> first | (cases h; done) | (cases h; decide)

theorem exec_undefined {op : Byte} {i : Instr} (h : (op, i) ∈ Instr.undefinedOpcodes) (s : State) :
    exec i s = undefinedOpcode op s := by
  fin_cases h <;> rfl

theorem decodeFetched_undefined {op : Byte} {i : Instr} (h : (op, i) ∈ Instr.undefinedOpcodes) :
    decodeFetched [op] = .ok (i, []) ∧ op ≠ 0x10 ∧ fetchedLength op = 1 := by
  fin_cases h <;> exact ⟨rfl, by decide, rfl⟩

theorem undefinedOpcode_nop {s : State} (h : s.params.illegalOpcodes = .nop) (op : Byte) :
    undefinedOpcode op s = .next (s.diagnose op) := by
  unfold undefinedOpcode
  rw [h]
  rfl

theorem undefinedOpcode_refuse {s : State} (h : s.params.illegalOpcodes = .refuse) (op : Byte) :
    undefinedOpcode op s = .refused (.undefinedOpcode op) := by
  unfold undefinedOpcode
  rw [h]

/-- Settles O12: an instruction runs its schedule to the end, PREFIX CB that of the byte it fetches. -/
theorem noInstructionStops : Obligations.NoInstructionStops := by
  intro i s
  by_cases hcb : i = .cbPrefix
  · subst hcb
    exact .inl ⟨_, exec_cbPrefix_eq s⟩
  · rcases exec_cases i hcb s with h | ⟨op, hsched, hpolicy, h⟩
    · exact .inl ⟨_, h⟩
    · exact .inr ⟨hpolicy, op, mem_undefinedOpcodes_of_schedule hsched, h⟩

/-- At a boundary with parameters the model accepts, a step answers a next state or refuses an undefined opcode. -/
theorem step_answers {s : State} (hacc : s.params.accepted = true) (hnone : s.inflight = .none) :
    (∃ t, step s = .next t) ∨
      (s.params.illegalOpcodes = .refuse ∧ ∃ op i, (op, i) ∈ Instr.undefinedOpcodes ∧ step s = .refused (.undefinedOpcode op)) := by
  by_cases hdue : s.ime = true ∧ s.pending ≠ 0
  · exact .inl ⟨_, step_service hacc hnone hdue.1 hdue.2⟩
  by_cases hhalted : s.halted = true ∧ s.pending = 0
  · exact .inl ⟨_, step_idle hacc hnone hhalted.1 hhalted.2⟩
  obtain ⟨i, hi⟩ := fetched_decodes { s with halted := false }
  have hparams : (State.fetchInstr { s with halted := false }).2.params = s.params :=
    fetchInstr_keeps (P := fun u => u.params = s.params) (fun u h => (tick_params u).trans h) (fun _ h _ _ _ => h) rfl
  rw [step_execute hacc hnone hdue hhalted]
  unfold execute
  rw [hi]
  dsimp only
  rcases noInstructionStops i (State.fetchInstr { s with halted := false }).2 with ⟨t, ht⟩ | ⟨hpolicy, op, hop, ht⟩
  · rw [ht]; exact .inl ⟨_, rfl⟩
  · rw [ht]; exact .inr ⟨hparams ▸ hpolicy, op, i, hop, rfl⟩

theorem romSize_of_not_accepted {p : Params} (h : p.accepted = false) :
    p.cartKind = .mbc1 ∧ (p.romSize = 0 ∨ p.romSize % 0x4000 ≠ 0) := by
  unfold Params.accepted at h
  split at h
  · cases h
  next hkind => exact ⟨hkind, by simpa [Classical.or_iff_not_imp_left] using h⟩

/-- Settles O13: what the parameters refuse, what the instruction refuses, and no third. -/
theorem stepRefusesOnlyWhatTheSpecRefuses : Obligations.StepRefusesOnlyWhatTheSpecRefuses := by
  intro s hnone
  cases hacc : s.params.accepted with
  | true => exact (step_answers hacc hnone).imp_right .inl
  | false =>
    obtain ⟨hkind, hsize⟩ := romSize_of_not_accepted hacc
    exact .inr (.inr ⟨hkind, hsize, step_not_accepted hacc⟩)

/-- Settles O39: each of the 11 is one M-cycle without a bus access; the step's opcode fetch leaves its address in the latch. -/
theorem undefinedOpcodesLogOrRefuse : Obligations.UndefinedOpcodesLogOrRefuse := by
  refine ⟨⟨rfl, fun x hx mode => ?_⟩, fun s op i hi hpolicy => ?_, fun s op i hi hpolicy => ?_, fun s op i hf hi hop hpolicy => ?_⟩
  · obtain ⟨hd, hstop, -⟩ := decodeFetched_undefined hx
    exact decode_of_fetched mode hd hstop
  · rw [exec_undefined hi, undefinedOpcode_nop hpolicy]
    rfl
  · rw [exec_undefined hi, undefinedOpcode_refuse hpolicy]
  · obtain ⟨hd, -, hlen⟩ := decodeFetched_undefined hi
    subst hop
    rw [step_of_one hf hlen hd, exec_undefined hi, undefinedOpcode_nop (s := Claim.opcodeFetched s) hpolicy]
    refine ⟨_, rfl, ?_⟩
    simp [Claim.opcodeFetched, State.diagnose]

/-! ## The byte after 0xCB (R120, R140) -/

/-- The schedule of a CB instruction is the one of its fields. -/
theorem schedule_decodeCb (cbop : Byte) : schedule (decodeCb cbop) = cbSchedule cbop := by
  revert cbop
  decide

theorem cbSchedule_ne_diagnose (cbop op : Byte) : cbSchedule cbop ≠ [.diagnose op] := by
  simp only [cbSchedule]
  split <;> exact fun h => by cases h

theorem decodeCb_ne_cbPrefix (cbop : Byte) : decodeCb cbop ≠ .cbPrefix := by
  intro h
  have he := encodeFetched_decodeCb cbop
  rw [h] at he
  cases he

theorem exec_decodeCb (cbop : Byte) (s : State) : exec (decodeCb cbop) s = .next (runSchedule (cbSchedule cbop) s) := by
  rw [← schedule_decodeCb]
  rcases exec_cases (decodeCb cbop) (decodeCb_ne_cbPrefix cbop) s with h | ⟨op, hsched, -⟩
  · exact h
  · rw [schedule_decodeCb] at hsched
    exact absurd hsched (cbSchedule_ne_diagnose cbop op)

/-- Settles O40: the fetched byte's instruction runs the schedule that PREFIX CB goes on with. -/
theorem cbByteSelectsTheCbInstruction : Obligations.CbByteSelectsTheCbInstruction := by
  intro s i hd
  cases hd
  rw [exec_cbPrefix_eq, tick_pc, fetchByte_tick, exec_decodeCb]
  exact ⟨rfl, _, rfl⟩

/-! ## Engine control -/

/-- The two encodings of STOP (R111, R148). -/
theorem stop_encodings (x : Byte) : decode .skip1 [0x10, x] = .ok (.stop, []) ∧ encode .skip1 x .stop = [0x10, x] ∧
    decode .nop1 [0x10] = .ok (.stop, []) ∧ encode .nop1 x .stop = [0x10] :=
  ⟨decode_stop_skip1 x [], encode_stop_skip1 x, decode_stop_nop1 [], encode_stop_nop1 x⟩

theorem exec_stop_eq (s : State) :
    exec .stop s = .next { s with pc := s.pc + BitVec.ofNat 16 (ignoredBytes s.params.stopMode 0x10) } := rfl

/-- RETI pops as RET does, and its last M-cycle sets IME at once (R279). -/
theorem exec_reti_eq (s : State) : exec .reti s = .next { (Claim.popped s).tick with
    pc := mkWord (Claim.popped s).latches.hi (Claim.popped s).latches.lo, ime := true, eiDelay := 0 } := by
  have hi : exec .reti s = .next (runSchedule [.idle, .popLo, .popHi, .retiJump] s) := rfl
  rw [hi, runSchedule_idle, runSchedule_step (fun _ => rfl), runSchedule_step (fun _ => rfl), runSchedule_one]
  simp only [MicroOp.run, popLo_tick_popHi, State.returnFromInterrupt, State.latched, tick_latches]

/-- Settles O38: each but RETI is one M-cycle; STOP moves PC by the ignored bytes of its mode. -/
theorem engineControlActsOnTheEngine : Obligations.EngineControlActsOnTheEngine := by
  intro s
  refine ⟨⟨?_, ?_, ?_, ?_, ?_⟩, stop_encodings, rfl, rfl, rfl, fun h => ?skip1, fun h => ?nop1, exec_reti_eq s⟩
  case skip1 => rw [exec_stop_eq, h, ignoredBytes_skip1]; rfl
  case nop1 => rw [exec_stop_eq, h, ignoredBytes_nop1, BitVec.add_zero]
  all_goals exact encodedAs_of_fetched (by decide) rfl rfl

/-! ## The EI delay (R134, R146) -/

/-- The M-cycles of every instruction but EI, DI and RETI leave IME and the EI delay. -/
theorem writesIme_of_mem_schedule {i : Instr} (hei : i ≠ .ei) (hdi : i ≠ .di) (hreti : i ≠ .reti) {m : MicroOp}
    (hm : m ∈ schedule i) : m.writesIme = false := by
  have hall : (schedule i).all (fun m => !m.writesIme) = true := by
    cases i
    case ei => exact absurd rfl hei
    case di => exact absurd rfl hdi
    case reti => exact absurd rfl hreti
    all_goals rfl
  simpa using List.all_eq_true.mp hall m hm

theorem eiTick_idle {s : State} (h : s.eiDelay = 0) : s.eiTick = s := by
  rw [State.eiTick, h]
  rfl

theorem eiTick_last {s : State} (h : s.eiDelay = 1) : s.eiTick = { s with eiDelay := 0, ime := true } := by
  rw [State.eiTick, h]
  rfl

/-- The M-cycles a CB instruction runs. -/
theorem writesIme_of_mem_cbSchedule {cbop : Byte} {m : MicroOp} (hm : m ∈ cbSchedule cbop) : m.writesIme = false := by
  have hall (cbop : Byte) : (cbSchedule cbop).all (fun m => !m.writesIme) = true := by
    revert cbop
    decide
  simpa using List.all_eq_true.mp (hall cbop) m hm

theorem exec_ime {i : Instr} {s t : State} (hei : i ≠ .ei) (hdi : i ≠ .di) (hreti : i ≠ .reti) (h : exec i s = .next t) :
    t.eiDelay = s.eiDelay ∧ t.ime = s.ime := by
  refine exec_keeps (P := fun u => u.eiDelay = s.eiDelay ∧ u.ime = s.ime) (fun u hu => ?tick) (fun u hu _ _ _ => hu)
    (fun m hm u hu => ?run) ⟨rfl, rfl⟩ h
  case tick => rwa [tick_eiDelay, tick_ime]
  case run =>
    have hw : m.writesIme = false := by
      unfold mayRun at hm
      split at hm
      · exact writesIme_of_mem_cbSchedule hm.choose_spec
      · exact writesIme_of_mem_schedule hei hdi hreti hm
    obtain ⟨hime, hdelay⟩ := run_ime hw u
    rwa [hime, hdelay]

/-- Settles O9: EI's own completion brings the delay from 2 to 1, the next one to 0; the other clauses are the two definitions' own cases and
the schedules of the other instructions. -/
theorem eiTakesEffectOneInstructionLater : Obligations.EiTakesEffectOneInstructionLater := by
  refine ⟨fun s hime hdelay => ?arms, fun s h => eiTick_last h, fun s h => eiTick_idle h, fun s h => ?keeps,
    fun i s t hei hdi hreti h => exec_ime hei hdi hreti h⟩
  case arms =>
    have harm : s.armEi = { s with eiDelay := 2 } := if_pos ⟨hime, hdelay⟩
    have htick : State.eiTick { s with eiDelay := 2 } = { s with eiDelay := 1 } := rfl
    refine ⟨s.armEi, rfl, ?_⟩
    rw [harm, htick]
    exact ⟨rfl, hime, rfl⟩
  case keeps =>
    have harm : s.armEi = s := if_neg (by rintro ⟨hime, hdelay⟩; simp [hime, hdelay] at h)
    have hexec : exec .ei s = .next s.armEi := rfl
    rw [hexec, harm]

end Sys2Proof.Machine
end

section
/-! PROOFS. The machine of one M-cycle per system step (R130 to R136), run to the boundary, is the step. The number of system steps is the length
of the instruction and of its schedule together, at most six; the work in flight is what the machine adds to the state between them. -/
namespace Sys2Proof.Machine

/-! ## Fetched bytes and the work they begin -/

/-- As many bytes as the first asks for are those of an instruction. -/
theorem exists_encodeFetched {op : Byte} {operands : List Byte} (hlen : operands.length + 1 = fetchedLength op) :
    ∃ i, i ≠ .cbPrefix ∧ encodeFetched i = op :: operands := by
  obtain ⟨i, bs, he, hne, hcount, hbs⟩ := exists_decodeFetched (op := op) (rest := operands) hlen.ge
  have hdrop : operands.drop (fetchedLength op - 1) = [] := List.drop_eq_nil_of_le (by omega)
  rw [hdrop, List.append_nil] at hbs
  subst hbs
  exact ⟨i, ne_cbPrefix_of_wellFormed (wellFormed_of_encodeFetched he hne), he⟩

/-- With all its bytes fetched, an instruction's work begun and run to the boundary is its execution. -/
theorem beginWork_eq_execute {op : Byte} {operands : List Byte} (hlen : operands.length + 1 = fetchedLength op) {u : State}
    (hacc : u.params.accepted = true) (hnone : u.inflight = .none) {n : Nat} (hn : 6 ≤ n + 1 + operands.length) :
    afterSystemStep n (onNext (u.beginWork (op :: operands)) State.tick) = execute (op :: operands, u) := by
  obtain ⟨i, hi, he⟩ := exists_encodeFetched hlen
  have hd := decodeFetched_encodeFetched hi []
  rw [he, List.append_nil] at hd
  have hsched := schedule_length i op operands he
  rw [beginWork_toBoundary hd hi u hacc hnone n (by omega), execute_ok u hd]

/-! ## Operand fetches -/

/-- The second operand byte in flight. -/
theorem operand2_toBoundary {op : Byte} (h : fetchedLength op = 3) (lo : Byte) {u : State} (hacc : u.params.accepted = true)
    (hnone : u.inflight = .none) : runToBoundary 4 (u.withInflight (.operand2 op lo)) = execute (u.fetchThird op lo) := by
  have hsys : systemStep (u.withInflight (.operand2 op lo)) =
      onNext ((u.fetchThird op lo).2.beginWork (u.fetchThird op lo).1) State.tick := by
    rw [systemStep_accepted (s := u.withInflight (.operand2 op lo)) hacc]
    exact congrArg (onNext · State.tick) (beginWork_withInflight (u.fetchThird op lo).2 (.operand2 op lo) _)
  rw [runToBoundary_after 3 _ _ hsys]
  exact beginWork_eq_execute (operands := [lo, u.memRead u.pc]) h.symm (u := (u.fetchThird op lo).2) hacc hnone (n := 3) (by simp)

/-- The byte after the opcode in flight. -/
theorem operand_toBoundary {op : Byte} (h : fetchedLength op ≠ 1) {u : State} (hacc : u.params.accepted = true)
    (hnone : u.inflight = .none) : runToBoundary 5 (u.withInflight (.operand op)) = execute (u.fetchSecond op) := by
  obtain h | h | h := fetchedLength_cases op
  · contradiction
  · have hsys : systemStep (u.withInflight (.operand op)) =
        onNext ((u.fetchByte op).2.beginWork [op, u.memRead u.pc]) State.tick := by
      rw [systemStep_accepted (s := u.withInflight (.operand op)) hacc]
      refine congrArg (onNext · State.tick) ((if_pos h).trans ?_)
      exact beginWork_withInflight (u.fetchByte op).2 (.operand op) _
    rw [runToBoundary_after 4 _ _ hsys, fetchSecond_two h]
    exact beginWork_eq_execute (operands := [u.memRead u.pc]) h.symm (u := (u.fetchByte op).2) hacc hnone (n := 4) (by simp)
  · have hsys : systemStep (u.withInflight (.operand op)) =
        .next (((u.fetchByte op).2.latchLo (u.memRead u.pc)).tick.withInflight (.operand2 op (u.memRead u.pc))) := by
      rw [systemStep_accepted (s := u.withInflight (.operand op)) hacc, ← tick_withInflight]
      exact congrArg (onNext · State.tick) (if_neg (by omega))
    rw [runToBoundary_next 4 hsys, fetchSecond_three h]
    refine (if_neg (fun h => by cases h)).trans (operand2_toBoundary h _ ?_ ?_)
    · rw [tick_params]; exact hacc
    · rw [tick_inflight]; exact hnone

/-! ## The boundary -/

section
variable {s : State} (hacc : s.params.accepted = true) (hnone : s.inflight = .none)
include hacc hnone

theorem systemStep_boundary : systemStep s = onNext s.boundaryCycle State.tick := by
  rw [systemStep_accepted hacc, State.cpuStep, hnone]

theorem service_toBoundary (hdue : s.ime = true ∧ s.pending ≠ 0) : runToBoundary 6 s = .next s.takeInterrupt.tick := by
  have hsys : systemStep s = .next (State.tick (State.runCycle { s with halted := false } .service .idle
      [.idle, .pushPcHi, .pushPcLo, .vector])) := by
    rw [systemStep_boundary hacc hnone, State.boundaryCycle, if_pos hdue]
    rfl
  have hinflight : s.takeInterrupt.inflight = .none :=
    (runSchedule_field State.inflight tick_inflight _ (fun m _ s => run_inflight m s) _).trans hnone
  have hfinish : s.takeInterrupt.finishWork .service = s.takeInterrupt := withInflight_self hinflight
  rw [runToBoundary_next 5 hsys, runCycle_toBoundary .service .idle _ 5 { s with halted := false } hacc (by decide)]
  exact congrArg (Host.Outcome.next ·.tick) hfinish

theorem idle_toBoundary (hdue : ¬ (s.ime = true ∧ s.pending ≠ 0)) (hhalted : s.halted = true ∧ s.pending = 0) :
    runToBoundary 6 s = .next s.tick := by
  have hsys : systemStep s = .next s.tick := by
    rw [systemStep_boundary hacc hnone, State.boundaryCycle, if_neg hdue, if_pos hhalted]
    rfl
  rw [runToBoundary_next 5 hsys, tick_inflight, if_pos hnone]

theorem fetch_toBoundary (hdue : ¬ (s.ime = true ∧ s.pending ≠ 0)) (hhalted : ¬ (s.halted = true ∧ s.pending = 0)) :
    runToBoundary 6 s = execute (State.fetchInstr { s with halted := false }) := by
  have hcycle : s.boundaryCycle = if fetchedLength (s.memRead s.pc) = 1 then (Claim.opcodeFetched s).beginWork [s.memRead s.pc]
      else .next ((Claim.opcodeFetched s).withInflight (.operand (s.memRead s.pc))) := by
    rw [State.boundaryCycle, if_neg hdue, if_neg hhalted]
    rfl
  by_cases hlen : fetchedLength (s.memRead s.pc) = 1
  · have hsys : systemStep s = onNext ((Claim.opcodeFetched s).beginWork [s.memRead s.pc]) State.tick := by
      rw [systemStep_boundary hacc hnone, hcycle, if_pos hlen]
    rw [runToBoundary_after 5 _ _ hsys, fetchInstr_one (s := { s with halted := false }) hlen]
    exact beginWork_eq_execute (operands := []) hlen.symm (u := Claim.opcodeFetched s) hacc hnone (by simp)
  · have hsys : systemStep s = .next ((Claim.opcodeFetched s).tick.withInflight (.operand (s.memRead s.pc))) := by
      rw [systemStep_boundary hacc hnone, hcycle, if_neg hlen, ← tick_withInflight]
      rfl
    rw [runToBoundary_next 5 hsys, fetchInstr_more (s := { s with halted := false }) hlen]
    refine (if_neg (fun h => by cases h)).trans (operand_toBoundary hlen ?_ ?_)
    · rw [tick_params]; exact hacc
    · rw [tick_inflight]; exact hnone

end

/-- Settles O11: branch by branch of the boundary, and parameters the model refuses are refused by the first system step. -/
theorem stepIsSystemStepsToTheBoundary : Obligations.StepIsSystemStepsToTheBoundary := by
  intro s hnone
  cases hacc : s.params.accepted with
  | false =>
    have hsys : systemStep s = .refused (.romSize s.params.romSize) := by rw [systemStep, if_neg (by simp [hacc])]
    rw [step_not_accepted hacc, runToBoundary_after 5 _ _ hsys]
    rfl
  | true =>
    by_cases hdue : s.ime = true ∧ s.pending ≠ 0
    · rw [step_service hacc hnone hdue.1 hdue.2, service_toBoundary hacc hnone hdue]
    by_cases hhalted : s.halted = true ∧ s.pending = 0
    · rw [step_idle hacc hnone hhalted.1 hhalted.2, idle_toBoundary hacc hnone hdue hhalted]
    · rw [step_execute hacc hnone hdue hhalted, fetch_toBoundary hacc hnone hdue hhalted]

end Sys2Proof.Machine
end

section
/-! PROOFS. What the peripherals' part of a system step leaves alone (R130, R143, R301, R305, R306): each of the three devices, one clock, dot or
byte at a time. -/
namespace Sys2Proof.Machine

/-! ## Interrupt requests -/

/-- A value of IF after another with requests between: bits are set only, and never Serial or Joypad (decision D36). -/
structure Requested (f g : BitVec 5) : Prop where
  keeps : f &&& g = f
  serial : g.getLsbD 3 = f.getLsbD 3
  joypad : g.getLsbD 4 = f.getLsbD 4

theorem Requested.refl (f : BitVec 5) : Requested f f := ⟨BitVec.and_self, rfl, rfl⟩

theorem Requested.trans {f g k : BitVec 5} (hg : Requested f g) (hk : Requested g k) : Requested f k where
  keeps := by rw [← hg.keeps, BitVec.and_assoc, hk.keeps]
  serial := hk.serial.trans hg.serial
  joypad := hk.joypad.trans hg.joypad

/-- The three interrupts with a source in the core: VBlank, LCD-STAT and Timer. -/
theorem request_requested (s : State) {i : Nat} (hi : i < 3) : Requested s.iflag (s.request i).iflag := by
  have hbits (f : BitVec 5) : ∀ i < 3, Requested f (f ||| (1#5 <<< i)) := by
    intro i hi
    interval_cases i <;> constructor <;> revert f <;> decide
  exact hbits s.iflag i hi

theorem requestStat_requested (s : State) (fires : Bool) : Requested s.iflag (s.requestStat fires).iflag := by
  cases fires with
  | false => exact Requested.refl _
  | true => exact request_requested s (by decide)

theorem updateCoincidence_requested (s : State) (old : Bool) : Requested s.iflag (s.updateCoincidence old).iflag :=
  requestStat_requested { s with lcd := { s.lcd with coincidence := decide (s.lcd.ly = s.lcd.lyc) } } _

theorem advanceDot_requested (s : State) : Requested s.iflag s.advanceDot.iflag := by
  unfold State.advanceDot
  split
  · exact updateCoincidence_requested { s with lcd := { s.lcd with dot := 0, ly := nextLine s.lcd.ly } } _
  · exact Requested.refl _

theorem onEnter_requested (s : State) (m : Mode) : Requested s.iflag (s.onEnter m).iflag := by
  cases m with
  | hblank => exact requestStat_requested { s with lcd := renderLine s.lcd s.vram s.lcd.ly } _
  | vblank =>
    exact (request_requested { s with frames := s.frames ++ [s.lcd.frame] } (by decide)).trans (requestStat_requested _ _)
  | oam => exact requestStat_requested s _
  | transfer => exact Requested.refl _

theorem enterMode_requested (s : State) : Requested s.iflag s.enterMode.iflag := by
  simp only [State.enterMode]
  split
  · exact Requested.refl _
  · exact onEnter_requested { s with lcd := { s.lcd with mode := modeOf s.lcd.ly s.lcd.dot } } _

theorem dotTick_requested (s : State) : Requested s.iflag s.dotTick.iflag := by
  unfold State.dotTick
  split
  · exact (advanceDot_requested s).trans (enterMode_requested _)
  · exact Requested.refl _

theorem displayTick_requested (n : Nat) (s : State) : Requested s.iflag (s.displayTick n).iflag := by
  induction n generalizing s with
  | zero => exact Requested.refl _
  | succ n ih => exact (dotTick_requested s).trans (ih s.dotTick)

theorem timerTick1_requested (s : State) : Requested s.iflag s.timerTick1.iflag := by
  rw [timerTick1_eq]
  dsimp only
  split
  · exact request_requested s (by decide)
  · exact Requested.refl _

theorem timerTick_requested (n : Nat) (s : State) : Requested s.iflag (s.timerTick n).iflag := by
  induction n generalizing s with
  | zero => exact Requested.refl _
  | succ n ih => exact (timerTick1_requested s).trans (ih s.timerTick1)

theorem tick_requested (s : State) : Requested s.iflag s.tick.iflag := by
  have hiflag : s.tick.iflag = ((s.displayTick 4).timerTick 4).iflag := by simp [State.tick]
  rw [hiflag]
  exact (displayTick_requested 4 s).trans (timerTick_requested 4 _)

/-! ## The DMA controller and the timer -/

theorem dmaTick_idle {s : State} (h : s.dma.active = false) (n : Nat) : s.dmaTick n = s := by
  rw [State.dmaTick, h]
  rfl

theorem tick_dma_idle {s : State} (h : s.dma.active = false) : s.tick.oam = s.oam ∧ s.tick.dma = s.dma := by
  rw [tick_oam, tick_dma, dmaTick_idle (by simpa using h)]
  simp

/-- The registers of the DMA controller that only a write of 0xFF46 changes (R95). -/
theorem dmaLoop_registers (k : Nat) (s : State) :
    (s.dmaLoop k).dma.reg = s.dma.reg ∧ (s.dmaLoop k).dma.source = s.dma.source := by
  induction k generalizing s with
  | zero => exact ⟨rfl, rfl⟩
  | succ k ih =>
    unfold State.dmaLoop
    split
    · rw [(ih _).1, (ih _).2, dmaCopyByte_dma]
      split <;> exact ⟨rfl, rfl⟩
    · exact ⟨rfl, rfl⟩

theorem tick_dma_registers (s : State) : s.tick.dma.reg = s.dma.reg ∧ s.tick.dma.source = s.dma.source := by
  have hdma : ((s.displayTick 4).timerTick 4).dma = s.dma := by simp
  rw [tick_dma, ← hdma]
  unfold State.dmaTick
  split
  · exact dmaLoop_registers _ _
  · exact ⟨rfl, rfl⟩

theorem timer_count_registers (t : Timer) : t.count.tma = t.tma ∧ t.count.tac = t.tac := by
  unfold Timer.count Timer.edgeCheck Timer.increment
  dsimp only
  (repeat' split) <;> exact ⟨rfl, rfl⟩

theorem timer_countdown_registers (t : Timer) : t.countdown.2.tma = t.tma ∧ t.countdown.2.tac = t.tac := by
  unfold Timer.countdown
  dsimp only
  (repeat' split) <;> exact ⟨rfl, rfl⟩

theorem timerTick_registers (n : Nat) (s : State) :
    (s.timerTick n).timer.tma = s.timer.tma ∧ (s.timerTick n).timer.tac = s.timer.tac := by
  induction n generalizing s with
  | zero => exact ⟨rfl, rfl⟩
  | succ n ih =>
    obtain ⟨htma, htac⟩ := timer_count_registers s.timer.countdown.2
    obtain ⟨htma', htac'⟩ := timer_countdown_registers s.timer
    obtain ⟨ihtma, ihtac⟩ := ih s.timerTick1
    rw [timerTick1_timer] at ihtma ihtac
    exact ⟨ihtma.trans (htma.trans htma'), ihtac.trans (htac.trans htac')⟩

theorem tick_timer_registers (s : State) : s.tick.timer.tma = s.timer.tma ∧ s.tick.timer.tac = s.timer.tac := by
  have htimer : (s.displayTick 4).timer = s.timer := displayTick_timer 4 s
  rw [tick_timer, ← htimer]
  exact timerTick_registers 4 _

/-! ## The bus -/

theorem tick_romOffset (s : State) (a : Nat) : s.tick.romOffset a = s.romOffset a := by
  unfold State.romOffset
  rw [tick_params, tick_mbc1]

theorem tick_readRom (s : State) (a : Nat) : s.tick.readRom a = s.readRom a := by
  rw [State.readRom, tick_romOffset, tick_params, State.readRom]

theorem tick_eramOffset (s : State) (a : Nat) : s.tick.eramOffset a = s.eramOffset a := by
  unfold State.eramOffset
  rw [tick_params, tick_mbc1]

theorem tick_readEram (s : State) (a : Nat) : s.tick.readEram a = s.readEram a := by
  rw [State.readEram, tick_eramOffset, tick_eram, State.readEram]

theorem tick_bootCovers (s : State) (a : Nat) : s.tick.bootCovers a = s.bootCovers a := by
  simp only [State.bootCovers, tick_bootEnabled, tick_params]

/-- Below the I/O page's registers and OAM, and above them, nothing a peripheral writes is read. -/
theorem tick_busRead (s : State) {a : Word} (h : a.toNat ≤ 0xFDFF ∨ 0xFF80 ≤ a.toNat) : s.tick.busRead a = s.busRead a := by
  have ha : a.toNat < 0x10000 := a.isLt
  by_cases hboot : s.bootCovers a.toNat = true
  · rw [busRead_boot s hboot, busRead_boot _ (by rwa [tick_bootCovers]), tick_params]
  have hboot : s.bootCovers a.toNat = false := by simpa using hboot
  have hwindow : a.toNat ≤ 0x7FFF ∨ (0x8000 ≤ a.toNat ∧ a.toNat ≤ 0x9FFF) ∨ (0xA000 ≤ a.toNat ∧ a.toNat ≤ 0xBFFF) ∨
      (0xC000 ≤ a.toNat ∧ a.toNat ≤ 0xDFFF) ∨ (0xE000 ≤ a.toNat ∧ a.toNat ≤ 0xFDFF) ∨
      (0xFF80 ≤ a.toNat ∧ a.toNat ≤ 0xFFFE) ∨ a.toNat = 0xFFFF := by omega
  obtain h | ⟨h, h'⟩ | ⟨h, h'⟩ | ⟨h, h'⟩ | ⟨h, h'⟩ | ⟨h, h'⟩ | h := hwindow
  · rw [busRead_rom s h hboot, busRead_rom _ h (by rwa [tick_bootCovers]), tick_readRom]
  · rw [busRead_vram s h h', busRead_vram _ h h', tick_vram]
  · rw [busRead_eram s h h', busRead_eram _ h h', tick_readEram]
  · rw [busRead_wram s h h', busRead_wram _ h h', tick_wram]
  · rw [busRead_echo s h h', busRead_echo _ h h', tick_wram]
  · rw [busRead_hram s h h', busRead_hram _ h h', tick_hram]
  · rw [busRead_ie s h, busRead_ie _ h, State.readIe, tick_ie, State.readIe]

/-- The fields that a tick may change, and the clock. -/
theorem tick_eq (s : State) :
    s.tick = { s with iflag := s.tick.iflag, lcd := s.tick.lcd, frames := s.tick.frames, timer := s.tick.timer, oam := s.tick.oam,
                      dma := s.tick.dma, clock := s.clock + 4 } := by
  rw [← tick_regs s, ← tick_flags s, ← tick_sp s, ← tick_pc s, ← tick_ime s, ← tick_eiDelay s, ← tick_haltBug s, ← tick_halted s,
    ← tick_inflight s, ← tick_latches s, ← tick_clock s, ← tick_diagnostics s, ← tick_ie s, ← tick_vram s, ← tick_wram s, ← tick_hram s,
    ← tick_eram s, ← tick_bootEnabled s, ← tick_mbc1 s, ← tick_joySelect s, ← tick_params s]

/-- Settles O44: no device writes a register of the engine, and each device's own registers only a bus write reaches. -/
theorem tickLeavesTheEngineAlone : Obligations.TickLeavesTheEngineAlone := by
  intro s
  obtain ⟨hkeeps, hserial, hjoypad⟩ := tick_requested s
  obtain ⟨hreg, hsource⟩ := tick_dma_registers s
  obtain ⟨htma, htac⟩ := tick_timer_registers s
  exact ⟨tick_eq s, ⟨hkeeps, hserial, hjoypad⟩, fun h => tick_dma_idle h, ⟨hreg, hsource, htma, htac⟩, fun _ h => tick_busRead s h⟩

end Sys2Proof.Machine
end

section
/-! PROOFS. A stack in RAM (R151, R152) and what is saved on it (R310, R314). With no transfer active neither a tick nor a change of a register
moves a byte of RAM, so two bytes pushed are there when they are popped. -/
namespace Sys2Proof.Machine

/-! ## RAM at rest -/

/-- The RAM arrays are canonical and no transfer is active. -/
structure State.RamQuiet (s : State) : Prop where
  wf : ∀ r, (s.ram r).wf
  idle : s.dma.active = false

theorem tick_ram {s : State} (h : s.dma.active = false) (r : RamArray) : s.tick.ram r = s.ram r := by
  cases r with
  | vram => exact tick_vram s
  | wram => exact tick_wram s
  | oam => exact (tick_dma_idle h).1
  | hram => exact tick_hram s

/-- The state has the bytes of RAM and the transfer controller of another, which is at rest. -/
structure State.SameRam (t s : State) : Prop where
  ram : ∀ r, t.ram r = s.ram r
  dma : t.dma = s.dma

theorem State.SameRam.readCell {s t : State} (h : t.SameRam s) (c : RamArray × Nat) : t.readCell c = s.readCell c := by
  rw [State.readCell, h.ram, State.readCell]

theorem State.SameRam.trans {s t u : State} (hu : u.SameRam t) (ht : t.SameRam s) : u.SameRam s :=
  ⟨fun r => (hu.ram r).trans (ht.ram r), hu.dma.trans ht.dma⟩

theorem State.RamQuiet.of_same {s t : State} (hs : s.RamQuiet) (h : t.SameRam s) : t.RamQuiet :=
  ⟨fun r => h.ram r ▸ hs.wf r, h.dma ▸ hs.idle⟩

theorem State.RamQuiet.tick_same {s : State} (hs : s.RamQuiet) : s.tick.SameRam s := ⟨tick_ram hs.idle, (tick_dma_idle hs.idle).2⟩

theorem State.RamQuiet.tick {s : State} (hs : s.RamQuiet) : s.tick.RamQuiet := hs.of_same hs.tick_same

theorem State.RamQuiet.memRead {s : State} (hs : s.RamQuiet) {a : Word} (ha : Claim.isRam a) : s.memRead a = s.readCell (ramCell a) := by
  rw [memRead_of_not_blocked s (dmaBlocks_of_idle s a hs.idle), busRead_eq_readCell s ha]

theorem State.RamQuiet.memWrite {s : State} (hs : s.RamQuiet) {a : Word} (ha : Claim.isRam a) (v : Byte) :
    s.memWrite a v = s.writeCell (ramCell a) v := by
  rw [memWrite_of_not_blocked s v (dmaBlocks_of_idle s a hs.idle), busWrite_eq_writeCell s v ha]

theorem State.RamQuiet.writeCell {s : State} (hs : s.RamQuiet) (c : RamArray × Nat) (v : Byte) : (s.writeCell c v).RamQuiet := by
  obtain ⟨r, i⟩ := c
  refine ⟨fun q => ?_, ?_⟩
  · rw [State.writeCell, setRam_ram]
    split
    · exact Memory.wf_write (hs.wf r) _ _
    · exact hs.wf q
  · cases r <;> exact hs.idle

theorem State.RamQuiet.writeCell_readCell {s : State} (hs : s.RamQuiet) (c d : RamArray × Nat) (v : Byte) :
    (s.writeCell c v).readCell d = if c = d then v else s.readCell d := by
  obtain ⟨r, i⟩ := c
  obtain ⟨q, j⟩ := d
  by_cases hrq : r = q
  · subst hrq
    simp [State.readCell, State.writeCell, Memory.read_write (hs.wf r)]
  · simp [State.readCell, State.writeCell, hrq]

theorem State.MemoryOk.ramQuiet {s : State} (h : s.MemoryOk) (hidle : s.dma.active = false) : s.RamQuiet := ⟨h.ram_wf, hidle⟩

/-! ## Two bytes pushed, and popped again -/

/-- Neighbours are two bytes, through the mirror too. -/
theorem ramCell_ne_of_pred {sp : Word} (h1 : Claim.isRam (sp - 1)) (h2 : Claim.isRam (sp - 2)) :
    ramCell (sp - 2) ≠ ramCell (sp - 1) := by
  rw [Ne, ramCell_eq_iff_sameByte h2 h1, Claim.sameByte]
  bv_omega

/-- SP, PC, the latches and what interrupt service sets are no RAM. -/
theorem sameRam_engine (s : State) (sp pc : Word) (la : Latches) (ime halted : Bool) (iflag : BitVec 5) :
    State.SameRam { s with sp := sp, pc := pc, latches := la, ime := ime, halted := halted, iflag := iflag } s :=
  ⟨fun _ => rfl, rfl⟩

section
variable {s : State} (hs : s.RamQuiet) (h1 : Claim.isRam (s.sp - 1))
include hs h1

theorem pushByte_ram (v : Byte) : (s.pushByte v).RamQuiet ∧
    ∀ c, (s.pushByte v).readCell c = if ramCell (s.sp - 1) = c then v else s.readCell c := by
  have hsame := sameRam_engine s (s.sp - 1) s.pc s.latches s.ime s.halted s.iflag
  have hsp := hs.of_same hsame
  have hpush : s.pushByte v = State.writeCell { s with sp := s.sp - 1 } (ramCell (s.sp - 1)) v := hsp.memWrite h1 v
  rw [hpush]
  exact ⟨hsp.writeCell _ _, fun c => by rw [hsp.writeCell_readCell, hsame.readCell]⟩

theorem pushed_ram (h2 : Claim.isRam (s.sp - 2)) (hi lo : Byte) : (Claim.pushed s hi lo).RamQuiet ∧
    (Claim.pushed s hi lo).readCell (ramCell (s.sp - 1)) = hi ∧ (Claim.pushed s hi lo).readCell (ramCell (s.sp - 2)) = lo := by
  obtain ⟨hquiet, hread⟩ := pushByte_ram hs h1 hi
  have hsp : (s.pushByte hi).tick.sp - 1 = s.sp - 2 := by rw [tick_sp, pushByte_sp]; bv_omega
  have h2' : Claim.isRam ((s.pushByte hi).tick.sp - 1) := by rwa [hsp]
  obtain ⟨hquiet', hread'⟩ := pushByte_ram hquiet.tick h2' lo
  rw [← pushByte_tick_pushByte]
  refine ⟨hquiet', ?_, ?_⟩
  · rw [hread', hsp, if_neg (ramCell_ne_of_pred h1 h2), hquiet.tick_same.readCell, hread, if_pos rfl]
  · rw [hread', hsp, if_pos rfl]

end

theorem pushed_sp (s : State) (hi lo : Byte) : (Claim.pushed s hi lo).sp = s.sp - 2 := by
  rw [← pushByte_tick_pushByte, pushByte_sp, tick_sp, pushByte_sp]
  bv_omega

/-- What POP and RETI find on a stack in RAM. -/
theorem popped_latches {s : State} (hs : s.RamQuiet) (h1 : Claim.isRam (s.sp + 1)) (h2 : Claim.isRam s.sp) :
    (Claim.popped s).latches.hi = s.readCell (ramCell (s.sp + 1)) ∧ (Claim.popped s).latches.lo = s.readCell (ramCell s.sp) := by
  have hlo : s.tick.popLo = { s.tick with sp := s.sp + 1, latches := { s.latches with lo := s.tick.memRead s.sp } } :=
    popLo_of_sp_latches (tick_sp s) (tick_latches s)
  have hsame : s.tick.popLo.SameRam s := by
    rw [hlo]
    exact (sameRam_engine s.tick _ s.tick.pc _ s.tick.ime s.tick.halted s.tick.iflag).trans hs.tick_same
  have hquiet := hs.of_same hsame
  have hhi : s.tick.popLo.tick.popHi = { s.tick.popLo.tick with sp := s.sp + 1 + 1, latches :=
      { s.tick.popLo.tick.latches with hi := s.tick.popLo.tick.memRead (s.sp + 1) } } :=
    popHi_of_sp (by rw [tick_sp, hlo])
  rw [← popLo_tick_popHi, hhi]
  dsimp only
  rw [hquiet.tick.memRead h1, hquiet.tick_same.readCell, hsame.readCell, tick_latches, hlo]
  exact ⟨rfl, by rw [hs.tick.memRead h2, hs.tick_same.readCell]⟩

theorem popped_sp (s : State) : (Claim.popped s).sp = s.sp + 2 := rfl

/-- A stack written and, with only ticks between, read again gives the two bytes back. -/
theorem popped_of_pushed {s t : State} (hs : s.RamQuiet) (h1 : Claim.isRam (s.sp - 1)) (h2 : Claim.isRam (s.sp - 2)) {hi lo : Byte}
    (hsame : t.SameRam (Claim.pushed s hi lo)) (hsp : t.sp = s.sp - 2) :
    (Claim.popped t).latches.hi = hi ∧ (Claim.popped t).latches.lo = lo ∧ (Claim.popped t).sp = s.sp := by
  obtain ⟨hquiet, hhi, hlo⟩ := pushed_ram hs h1 h2 hi lo
  have hnext : t.sp + 1 = s.sp - 1 := by rw [hsp]; bv_omega
  obtain ⟨hhi', hlo'⟩ := popped_latches (hquiet.of_same hsame) (by rwa [hnext]) (by rwa [hsp])
  rw [hnext, hsame.readCell, hhi] at hhi'
  rw [hsp, hsame.readCell, hlo] at hlo'
  exact ⟨hhi', hlo', by rw [popped_sp, hsp]; bv_omega⟩

/-! ## PUSH then POP -/

theorem withPair_sp (s : State) (p : StackPair) (hi lo : Byte) : (Claim.withPair s p hi lo).sp = s.sp := by
  cases p <;> rfl

/-- A pair written with its own bytes. -/
theorem withPair_stackBytes {s t : State} (hregs : t.regs = s.regs) (hflags : t.flags = s.flags) (p : StackPair) :
    (Claim.withPair t p (Claim.stackBytes s p).1 (Claim.stackBytes s p).2).regs = s.regs ∧
    (Claim.withPair t p (Claim.stackBytes s p).1 (Claim.stackBytes s p).2).flags = s.flags := by
  cases p with
  | af =>
    refine ⟨by rw [Claim.withPair, hregs]; rfl, ?_⟩
    calc Flags.unpack (Claim.stackBytes s .af).2
        = Flags.unpack s.flags.pack := by rw [Flags.pack_eq_ofNat]; rfl
      _ = s.flags := Flags.unpack_pack s.flags
  | bc | de | hl => exact ⟨by rw [Claim.withPair, hregs]; rfl, hflags⟩

theorem pushed_regs (s : State) (hi lo : Byte) : (Claim.pushed s hi lo).regs = s.regs := by
  rw [← pushByte_tick_pushByte, pushByte_regs, tick_regs, pushByte_regs]

theorem pushed_flags (s : State) (hi lo : Byte) : (Claim.pushed s hi lo).flags = s.flags := by
  rw [← pushByte_tick_pushByte, pushByte_flags, tick_flags, pushByte_flags]

theorem popped_regs (s : State) : (Claim.popped s).regs = s.regs := by
  rw [← popLo_tick_popHi, popHi_regs, tick_regs, popLo_regs, tick_regs]

theorem popped_flags (s : State) : (Claim.popped s).flags = s.flags := by
  rw [← popLo_tick_popHi, popHi_flags, tick_flags, popLo_flags, tick_flags]

theorem popped_halted (s : State) : (Claim.popped s).halted = s.halted := by
  rw [← popLo_tick_popHi, popHi_halted, tick_halted, popLo_halted, tick_halted]

/-- Settles O23: POP finds the pair's two bytes, and the pair is the word of them. -/
theorem popRestoresWhatPushStored : Obligations.PopRestoresWhatPushStored := by
  intro s p q hmem hidle h1 h2
  have hs := (hmem.ramQuiet hidle).tick.tick
  have hsp : s.tick.tick.sp = s.sp := by rw [tick_sp, tick_sp]
  rw [← hsp] at h1 h2
  obtain ⟨hhi, hlo, hback⟩ := popped_of_pushed hs h1 h2 (hi := (Claim.stackBytes s p).1) (lo := (Claim.stackBytes s p).2)
    ⟨fun _ => rfl, rfl⟩ (pushed_sp _ _ _)
  refine ⟨_, _, exec_pushPair_eq p s, exec_popPair_eq q _, ?_⟩
  rw [hhi, hlo]
  refine ⟨by rw [withPair_sp, hback, hsp], ?_, ?_⟩
  · rw [← setStackPair_mkWord, ← stackPair_eq_mkWord, setStackPair_stackPair]
  · rintro rfl
    refine withPair_stackBytes ?_ ?_ p
    · rw [popped_regs, pushed_regs, tick_regs, tick_regs]
    · rw [popped_flags, pushed_flags, tick_flags, tick_flags]

/-! ## Interrupt service -/

/-- M1 to M4: two idle M-cycles, then PC pushed (R310). -/
theorem pcSaved_eq (s : State) : Claim.pcSaved s =
    (Claim.pushed (State.tick { s with halted := false }).tick (hiByte s.pc) (loByte s.pc)).tick := by
  have hsp : (State.tick { s with halted := false }).tick.sp = s.sp := by rw [tick_sp, tick_sp]
  rw [Claim.pcSaved, Claim.pushed, hsp]

theorem takeInterrupt_eq (s : State) : s.takeInterrupt = (Claim.pcSaved s).enterVector := by
  rw [State.takeInterrupt, serviceSchedule, runSchedule_idle, runSchedule_idle, runSchedule_step (fun _ => rfl),
    runSchedule_step (fun _ => rfl), runSchedule_one, pcSaved_eq]
  simp only [MicroOp.run, tick_pc, pushByte_pc, pushByte_tick_pushByte]

/-- The interrupt of highest priority is the lowest bit set (R304). -/
theorem lowestBit_eq {p : BitVec 5} {i : Fin 5} (hi : p.getLsbD i = true) (hlow : ∀ j : Fin 5, j < i → p.getLsbD j = false) :
    lowestBit p = some i := by
  revert p i
  decide

theorem enterVector_of_lowest {s : State} {i : Nat} (h : lowestBit s.pending = some i) :
    s.enterVector = { s with pc := vectorOf i, iflag := s.iflag &&& ~~~(1#5 <<< i), ime := false, halted := false } := by
  rw [State.enterVector, h]
  rfl

theorem enterVector_of_none {s : State} (h : s.pending = 0) :
    s.enterVector = { s with pc := 0x0000, ime := false, halted := false } := by
  have hlow : lowestBit s.pending = none := by rw [h]; rfl
  rw [State.enterVector, hlow]

/-- Settles O7: the vector is entered in M5 from the interrupts pending then. -/
theorem interruptServiceSavesPcAndVectors : Obligations.InterruptServiceSavesPcAndVectors := by
  rintro s ⟨hacc, hnone⟩ ⟨hime, hpending⟩
  dsimp only
  rw [step_service hacc hnone hime hpending, takeInterrupt_eq]
  refine ⟨fun i hi hlow => ?_, fun h => ?_⟩
  · rw [enterVector_of_lowest (lowestBit_eq hi hlow), vectorOf]
  · rw [enterVector_of_none h]

theorem enterVector_sameRam (s : State) : s.enterVector.SameRam s := by
  unfold State.enterVector
  split <;> exact ⟨fun _ => rfl, rfl⟩

/-- Settles O8: RETI pops the PC that service pushed; neither touches a register or a flag. -/
theorem retiUndoesInterruptService : Obligations.RetiUndoesInterruptService := by
  rintro s ⟨hacc, hnone⟩ ⟨hime, hpending⟩ hmem hidle h1 h2
  have hs0 : State.RamQuiet { s with halted := false } := (hmem.ramQuiet hidle).of_same ⟨fun _ => rfl, rfl⟩
  have hs := hs0.tick.tick
  have hsp : (State.tick { s with halted := false }).tick.sp = s.sp := by rw [tick_sp, tick_sp]
  rw [← hsp] at h1 h2
  have hpushed := (pushed_ram hs h1 h2 (hiByte s.pc) (loByte s.pc)).1
  have hsame : s.takeInterrupt.tick.SameRam
      (Claim.pushed (State.tick { s with halted := false }).tick (hiByte s.pc) (loByte s.pc)) := by
    have hvector := enterVector_sameRam (Claim.pcSaved s)
    rw [takeInterrupt_eq]
    rw [pcSaved_eq] at hvector ⊢
    exact ((hpushed.tick.of_same hvector).tick_same.trans hvector).trans hpushed.tick_same
  have htsp : s.takeInterrupt.tick.sp = s.sp - 2 := by
    rw [tick_sp, takeInterrupt_eq, enterVector_sp, pcSaved_eq, tick_sp, pushed_sp, hsp]
  have hregs : s.takeInterrupt.regs = s.regs := by
    rw [takeInterrupt_eq, enterVector_regs, pcSaved_eq, tick_regs, pushed_regs, tick_regs, tick_regs]
  have hflags : s.takeInterrupt.flags = s.flags := by
    rw [takeInterrupt_eq, enterVector_flags, pcSaved_eq, tick_flags, pushed_flags, tick_flags, tick_flags]
  obtain ⟨hhi, hlo, hback⟩ := popped_of_pushed hs h1 h2 hsame (by rw [htsp, hsp])
  refine ⟨_, _, step_service hacc hnone hime hpending, exec_reti_eq _, htsp, ?_, ?_, ?_, ?_, ?_, rfl, ?_⟩
  · rw [tick_ime, takeInterrupt_eq, enterVector_ime]
  · rw [hhi, hlo, mkWord_hiByte_loByte]
  · rw [tick_sp, hback, hsp]
  · rw [tick_regs, popped_regs, tick_regs, hregs]
  · rw [tick_flags, popped_flags, tick_flags, hflags]
  · rw [tick_halted, popped_halted, tick_halted, takeInterrupt_eq, enterVector_halted]

end Sys2Proof.Machine
end

section
/-! PROOFS. The M-cycles of an instruction (R142, R430). `exec` ticks once between every two M-cycles of the schedule, so the clock counts the
schedule's length, cut at a condition that fails; the flags a condition reads are those at the start, because the M-cycle that writes
flags is always a schedule's last. -/
namespace Sys2Proof.Machine

/-- Whether a schedule ends early after this M-cycle when it starts it with flags `f` (R281). -/
def MicroOp.endsUnder (m : MicroOp) (f : Flags) : Bool :=
  match m with
  | .test cc => !condHolds cc f
  | _ => false

theorem endsUnder_eq (m : MicroOp) (s : State) : m.ends (m.run s) = m.endsUnder s.flags := by
  cases m <;> rfl

/-- The ticks between the M-cycles of a schedule. -/
def scheduleTicks (f : Flags) : List MicroOp → Nat
  | [] => 0
  | [_] => 0
  | m :: n :: rest => if m.endsUnder f then 0 else scheduleTicks f (n :: rest) + 1

/-- No M-cycle before the last writes a flag. -/
def flagsWrittenLast (ms : List MicroOp) : Bool := ms.dropLast.all (fun m => !m.writesFlags)

theorem runSchedule_clock : ∀ (ms : List MicroOp) (s : State), flagsWrittenLast ms = true →
    (runSchedule ms s).clock = s.clock + 4 * scheduleTicks s.flags ms
  | [], _, _ => rfl
  | [m], s, _ => run_clock m s
  | m :: n :: rest, s, h => by
    have hsplit : m.writesFlags = false ∧ flagsWrittenLast (n :: rest) = true := by simpa [flagsWrittenLast] using h
    obtain ⟨hm, hrest⟩ := hsplit
    have hflags : (m.run s).tick.flags = s.flags := by rw [tick_flags, run_flags hm]
    have hclock : (m.run s).tick.clock = s.clock + 4 := by rw [tick_clock, run_clock]
    rw [runSchedule_cons, endsUnder_eq, scheduleTicks]
    split
    · exact run_clock m s
    · rw [runSchedule_clock (n :: rest) _ hrest, hflags, hclock]
      omega

theorem schedule_flagsWrittenLast (i : Instr) : flagsWrittenLast (schedule i) = true := by
  cases i <;> rfl

/-- The table's count is the ticks and one M-cycle per fetched byte; a conditional one's by the flag it tests. -/
theorem cycles_eq {i : Instr} (hi : i ≠ .cbPrefix) (f : Flags) :
    Claim.cycles i f = scheduleTicks f (schedule i) + (encodeFetched i).length := by
  obtain ⟨z, n, h, c⟩ := f
  cases i
  case cbPrefix => exact absurd rfl hi
  case jr_NZ_e | jr_Z_e | jp_NZ_nn | jp_Z_nn | call_NZ_nn | call_Z_nn | ret_NZ | ret_Z => cases z <;> rfl
  case jr_NC_e | jr_C_e | jp_NC_nn | jp_C_nn | call_NC_nn | call_C_nn | ret_NC | ret_C => cases c <;> rfl
  all_goals rfl

/-- Settles O10: the schedules are as long as the table says. -/
theorem instructionsTakeTheirCycles : Obligations.InstructionsTakeTheirCycles := by
  intro i s t hwf h
  have hi := ne_cbPrefix_of_wellFormed hwf
  rw [exec_next hi h, runSchedule_clock _ _ (schedule_flagsWrittenLast i), cycles_eq hi]
  omega

end Sys2Proof.Machine
end

section
/-! PROOFS. Frames of the engine (files 41 to 46 and R24 to R36): a schedule changes what one of its M-cycles writes, and which those are is a
finite fact about the constructors, held against the statement's tables of opcodes. -/
namespace Sys2Proof.Machine

/-- A fact about every M-cycle of a schedule, as the tables are checked. -/
theorem of_schedule_all {i : Instr} {p : MicroOp → Bool} (h : (schedule i).all p = true) {m : MicroOp} (hm : m ∈ schedule i) :
    p m = true := List.all_eq_true.mp h m hm

/-! ## The tables -/

theorem schedule_writes (i : Instr) :
    (schedule i).all (fun m => m.writes.all (fun r => decide (r ∈ Claim.writesRegs i))) = true := by
  cases i <;> rfl

theorem schedule_writesFlags (i : Instr) : (Claim.writesFlags i || (schedule i).all (fun m => !m.writesFlags)) = true := by
  cases i <;> rfl

theorem schedule_writesSp (i : Instr) : (Claim.writesSp i || (schedule i).all (fun m => !m.writesSp)) = true := by
  cases i <;> rfl

theorem schedule_writesPc (i : Instr) : (Claim.writesPc i || (schedule i).all (fun m => !m.writesPc)) = true := by
  cases i <;> rfl

theorem schedule_writesHalt {i : Instr} (hi : i ≠ .halt) : (schedule i).all (fun m => !m.writesHalt) = true := by
  cases i
  case halt => exact absurd rfl hi
  all_goals rfl

/-- The M-cycles that append to the diagnostic log. -/
def MicroOp.logs (m : MicroOp) : Bool :=
  match m with
  | .diagnose _ => true
  | _ => false

theorem run_diagnostics_of_not_logs {m : MicroOp} (h : m.logs = false) (s : State) : (m.run s).diagnostics = s.diagnostics := by
  refine run_diagnostics (fun op hop => ?_) s
  subst hop
  cases h

theorem schedule_logs {i : Instr} (hi : ∀ op, (op, i) ∉ Instr.undefinedOpcodes) : (schedule i).all (fun m => !m.logs) = true := by
  cases i
  case undef_D3 | undef_DB | undef_DD | undef_E3 | undef_E4 | undef_EB | undef_EC | undef_ED | undef_F4 | undef_FC | undef_FD =>
    exact absurd (mem_undefinedOpcodes_of_schedule rfl) (hi _)
  all_goals rfl

/-! ## Fields of a whole schedule -/

/-- A field that ticks leave and that only the M-cycles of a class write, when no M-cycle of the schedule is of that class. -/
theorem schedule_field {α : Type} {i : Instr} {writes : MicroOp → Bool} (f : State → α) (ht : ∀ s, f s.tick = f s)
    (hm : ∀ m, writes m = false → ∀ s, f (m.run s) = f s) (h : (schedule i).all (fun m => !writes m) = true) (s : State) :
    f (runSchedule (schedule i) s) = f s :=
  runSchedule_field f ht _ (fun m hx => hm m (by simpa using of_schedule_all h hx)) s

theorem runSchedule_reg {i : Instr} {r : R8} (h : r ∉ Claim.writesRegs i) (s : State) :
    (runSchedule (schedule i) s).reg r = s.reg r := by
  refine runSchedule_field (fun s => s.reg r) (fun s => tick_reg s r) _ (fun m hm s => run_reg (fun hr => h ?_) s) s
  have hall := of_schedule_all (schedule_writes i) hm
  exact of_decide_eq_true (List.all_eq_true.mp hall r hr)

/-- Settles O41: each M-cycle's registers are the instruction's destinations, and the M-cycles that write flags are in the schedules of the
listed families only. -/
theorem onlyNamedRegistersAndFlagsChange : Obligations.OnlyNamedRegistersAndFlagsChange := by
  refine ⟨fun i s t hwf h => ?_, fun s => ?_⟩
  · rw [exec_next (ne_cbPrefix_of_wellFormed hwf) h]
    refine ⟨fun r hr => runSchedule_reg hr s, fun hflags => ?_⟩
    have hall := schedule_writesFlags i
    rw [hflags, Bool.false_or] at hall
    exact schedule_field State.flags tick_flags (fun m hm s => run_flags hm s) hall s
  · rw [takeInterrupt_eq, enterVector_flags, enterVector_regs, pcSaved_eq, tick_flags, tick_regs, pushed_flags, pushed_regs,
      tick_flags, tick_flags, tick_regs, tick_regs]
    exact ⟨rfl, rfl⟩

/-! ## Stores -/

/-- The addresses a schedule stores to, in order, when it runs from a state. -/
def scheduleStores : List MicroOp → State → List Word
  | [], _ => []
  | m :: rest, s => (m.storesTo s).toList ++ if m.ends (m.run s) then [] else scheduleStores rest (m.run s).tick

/-- What ticks keep, and M-cycles that store nowhere but to given addresses, a schedule that stores nowhere else keeps. -/
theorem runSchedule_storing {P : State → Prop} {A : List Word} (ht : ∀ s, P s → P s.tick)
    (hm : ∀ (m : MicroOp) s, m ≠ .vector → P s → (∀ a, m.storesTo s = some a → a ∈ A) → P (m.run s)) :
    ∀ (ms : List MicroOp) (s : State), .vector ∉ ms → P s → (∀ a ∈ scheduleStores ms s, a ∈ A) → P (runSchedule ms s)
  | [], _, _, h, _ => h
  | [m], s, hv, h, hA => by
    have hm' : m ≠ .vector := fun e => hv (by simp [e])
    exact hm m s hm' h (fun a ha => hA a (by simp [scheduleStores, ha]))
  | m :: n :: rest, s, hv, h, hA => by
    rw [List.mem_cons, not_or] at hv
    have hrun : P (m.run s) := hm m s (Ne.symm hv.1) h (fun a ha => hA a (by simp [scheduleStores, ha]))
    rw [runSchedule_cons]
    split
    · exact hrun
    next hends =>
      refine runSchedule_storing ht hm (n :: rest) _ hv.2 (ht _ hrun) (fun a ha => hA a ?_)
      rw [scheduleStores, if_neg hends]
      exact List.mem_append_right _ ha

/-- The M-cycles that store, in whatever state they run. -/
def MicroOp.mayStore (m : MicroOp) : Bool :=
  match m with
  | .store _ _ | .storeN _ _ | .storeHlInc | .storeHlDec | .incHl | .decHl | .cbHl _ | .resHl _ | .setHl _ | .storeSpLo _ | .storeSpHi _
  | .pushHi _ | .pushLo _ | .pushPcHi | .pushPcLo | .pushPcLoJump _ => true
  | _ => false

theorem storesTo_of_not_mayStore {m : MicroOp} (h : m.mayStore = false) (s : State) : m.storesTo s = none := by
  cases m <;> first | rfl | cases h

theorem scheduleStores_of_none {ms : List MicroOp} (h : ms.any MicroOp.mayStore = false) (s : State) : scheduleStores ms s = [] := by
  induction ms generalizing s with
  | nil => rfl
  | cons m rest ih =>
    rw [List.any_cons, Bool.or_eq_false_iff] at h
    rw [scheduleStores, storesTo_of_not_mayStore h.1, ih h.2, ite_self]
    rfl

theorem scheduleStores_idle (rest : List MicroOp) (s : State) : scheduleStores (.idle :: rest) s = scheduleStores rest s.tick := rfl

theorem scheduleStores_last {m : MicroOp} {s : State} {a : Word} (h : m.storesTo s = some a) : scheduleStores [m] s = [a] := by
  rw [scheduleStores, h, scheduleStores, ite_self]
  rfl

/-- One store, in the M-cycle after the last fetch. -/
theorem scheduleStores_one {m : MicroOp} {s : State} {a : Word} (h : m.storesTo s.tick = some a) :
    scheduleStores [.idle, m] s = [a] := by
  rw [scheduleStores_idle, scheduleStores_last h]

theorem scheduleStores_storeAt (a : Addr) (r : R8) (s : State) : scheduleStores [.idle, .store a r] s = [s.address a] :=
  scheduleStores_one (congrArg some (tick_address s a))

/-- The forms that store at (HL) in the M-cycle after the last fetch. -/
theorem scheduleStores_hl {m : MicroOp} (h : ∀ s, m.storesTo s = some s.hl) (s : State) : scheduleStores [.idle, m] s = [s.hl] :=
  scheduleStores_one (by rw [h, tick_hl])

/-- The forms that read (HL) and write it back. -/
theorem scheduleStores_readHl {m : MicroOp} (h : ∀ s, m.storesTo s = some s.hl) (s : State) :
    scheduleStores [.idle, .readHl, m] s = [s.hl] := by
  have hread (u : State) : scheduleStores [.readHl, m] u = scheduleStores [m] u.readT.tick := rfl
  have hhl (u : State) : u.readT.hl = u.hl := rfl
  rw [scheduleStores_idle, hread, scheduleStores_last (h _), tick_hl, hhl, tick_hl]

/-- LD (nn),SP stores at nn and at nn + 1. -/
theorem scheduleStores_storeSp (nn : Word) (s : State) :
    scheduleStores [.idle, .storeSpLo nn, .storeSpHi nn] s = [nn, nn + 1] := rfl

/-- Two bytes stored at SP - 1 and SP - 2. -/
theorem scheduleStores_two {m n : MicroOp} {s : State} (hm : m.storesTo s = some (s.sp - 1)) (hends : m.ends (m.run s) = false)
    (hsp : (m.run s).sp = s.sp - 1) (hn : ∀ u : State, n.storesTo u = some (u.sp - 1)) :
    scheduleStores [m, n] s = [s.sp - 1, s.sp - 2] := by
  have hsp' : s.sp - 1 - 1 = s.sp - 2 := by bv_omega
  rw [scheduleStores, hm, hends, if_neg Bool.false_ne_true, scheduleStores_last (hn _), tick_sp, hsp, hsp']
  rfl

theorem scheduleStores_push (p : StackPair) (s : State) :
    scheduleStores [.idle, .idle, .pushHi p, .pushLo p] s = [s.sp - 1, s.sp - 2] := by
  rw [scheduleStores_idle, scheduleStores_idle,
    scheduleStores_two (m := .pushHi p) (n := .pushLo p) rfl rfl (pushByte_sp _ _) (fun _ => rfl), tick_sp, tick_sp]

theorem scheduleStores_pushPc (nn : Word) (s : State) :
    scheduleStores [.idle, .pushPcHi, .pushPcLoJump nn] s = [s.sp - 1, s.sp - 2] := by
  rw [scheduleStores_idle,
    scheduleStores_two (m := .pushPcHi) (n := .pushPcLoJump nn) rfl rfl (pushByte_sp _ _) (fun _ => rfl), tick_sp]

theorem scheduleStores_call (nn : Word) (s : State) :
    scheduleStores [.idle, .idle, .pushPcHi, .pushPcLoJump nn] s = [s.sp - 1, s.sp - 2] := by
  rw [scheduleStores_idle, scheduleStores_pushPc, tick_sp]

/-- A conditional CALL stores only when taken. -/
theorem scheduleStores_callIf (cc : Cond) (nn : Word) (s : State) :
    scheduleStores [.test cc, .idle, .pushPcHi, .pushPcLoJump nn] s = if condHolds cc s.flags then [s.sp - 1, s.sp - 2] else [] := by
  have hsp (taken : Bool) : (Claim.tested s taken).tick.sp = s.sp := tick_sp _
  have htest : scheduleStores [.test cc, .idle, .pushPcHi, .pushPcLoJump nn] s = if !condHolds cc s.flags then [] else
    scheduleStores [.idle, .pushPcHi, .pushPcLoJump nn] (Claim.tested s (condHolds cc s.flags)).tick := by
    rw [scheduleStores, test_run]; rfl
  rw [htest, scheduleStores_pushPc, hsp]
  cases condHolds cc s.flags <;> rfl

/-- The addresses that the schedules store to are those that the statements compute. -/
theorem scheduleStores_eq {i : Instr} (hi : i ≠ .cbPrefix) (s : State) : scheduleStores (schedule i) s = Claim.stores i s := by
  cases i
  case cbPrefix => exact absurd rfl hi
  case ld_atBC_A | ld_atDE_A | ld_atHL_B | ld_atHL_C | ld_atHL_D | ld_atHL_E | ld_atHL_H | ld_atHL_L | ld_atHL_A =>
    exact scheduleStores_storeAt _ _ s
  case ld_atC_A => exact (scheduleStores_storeAt _ _ s).trans (congrArg (fun a => [a]) (mkWord_ff _))
  case ldh_atn_A n => exact (scheduleStores_storeAt _ _ s).trans (congrArg (fun a => [a]) (mkWord_ff n))
  case ld_atnn_A nn => exact (scheduleStores_storeAt _ _ s).trans (congrArg (fun a => [a]) (mkWord_hiByte_loByte nn).symm)
  case ld_atHL_n | ld_atHLinc_A | ld_atHLdec_A => exact scheduleStores_hl (fun _ => rfl) s
  case ld_atnn_SP nn =>
    exact (scheduleStores_storeSp nn s).trans (congrArg (fun a => [a, a + 1]) (mkWord_hiByte_loByte nn).symm)
  case inc_atHL | dec_atHL | rlc_atHL | rrc_atHL | rl_atHL | rr_atHL | sla_atHL | sra_atHL | swap_atHL | srl_atHL |
      res_0_atHL | res_1_atHL | res_2_atHL | res_3_atHL | res_4_atHL | res_5_atHL | res_6_atHL | res_7_atHL |
      set_0_atHL | set_1_atHL | set_2_atHL | set_3_atHL | set_4_atHL | set_5_atHL | set_6_atHL | set_7_atHL =>
    exact scheduleStores_readHl (fun _ => rfl) s
  case push_BC | push_DE | push_HL | push_AF => exact scheduleStores_push _ s
  case call_nn | rst_00 | rst_08 | rst_10 | rst_18 | rst_20 | rst_28 | rst_30 | rst_38 => exact scheduleStores_call _ s
  case call_NZ_nn | call_Z_nn | call_NC_nn | call_C_nn => exact scheduleStores_callIf _ _ s
  all_goals exact scheduleStores_of_none rfl s

/-- Interrupt service's last M-cycle. -/
def MicroOp.isVector (m : MicroOp) : Bool :=
  match m with
  | .vector => true
  | _ => false

theorem vector_notMem_schedule (i : Instr) : .vector ∉ schedule i := by
  have hall : (schedule i).all (fun m => !m.isVector) = true := by cases i <;> rfl
  exact fun h => Bool.false_ne_true (of_schedule_all hall h)

/-! ## The device registers -/

/-- The display controller without what its dots write: the registers that only a store reaches, and no more. -/
def Lcd.registers (d : Lcd) : Lcd := { d with ly := 0, coincidence := false, mode := .hblank, dot := 0, frame := [] }

theorem registers_eq_iff {d e : Lcd} : d.registers = e.registers ↔
    d.lcdc = e.lcdc ∧ d.statEnables = e.statEnables ∧ d.scy = e.scy ∧ d.scx = e.scx ∧ d.lyc = e.lyc ∧ d.bgp = e.bgp ∧
    d.obp0 = e.obp0 ∧ d.obp1 = e.obp1 ∧ d.wy = e.wy ∧ d.wx = e.wx := by
  simp [Lcd.registers]

theorem advanceDot_registers (s : State) : s.advanceDot.lcd.registers = s.lcd.registers := by
  unfold State.advanceDot
  split
  · rw [updateCoincidence_lcd]; rfl
  · rfl

theorem onEnter_registers (s : State) (m : Mode) : (s.onEnter m).lcd.registers = s.lcd.registers := by
  cases m with
  | hblank | vblank => rw [State.onEnter, requestStat_lcd]; rfl
  | oam => rw [State.onEnter, requestStat_lcd]
  | transfer => rfl

theorem enterMode_registers (s : State) : s.enterMode.lcd.registers = s.lcd.registers := by
  rw [State.enterMode]
  split
  · rfl
  · exact onEnter_registers { s with lcd := { s.lcd with mode := modeOf s.lcd.ly s.lcd.dot } } _

theorem dotTick_registers (s : State) : s.dotTick.lcd.registers = s.lcd.registers := by
  unfold State.dotTick
  split
  · rw [enterMode_registers, advanceDot_registers]
  · rfl

theorem displayTick_registers (n : Nat) (s : State) : (s.displayTick n).lcd.registers = s.lcd.registers := by
  induction n generalizing s with
  | zero => rfl
  | succ n ih => exact (ih s.dotTick).trans (dotTick_registers s)

/-- What only a store reaches: IE, the overlay, the bank controller, the selector and the registers of the devices. -/
structure StoredRegisters where
  ie : BitVec 5
  bootEnabled : Bool
  mbc1 : Mbc1
  joySelect : BitVec 2
  dmaReg : Byte
  dmaSource : Word
  tma : Byte
  tac : BitVec 3
  lcd : Lcd

def State.storedRegisters (s : State) : StoredRegisters :=
  ⟨s.ie, s.bootEnabled, s.mbc1, s.joySelect, s.dma.reg, s.dma.source, s.timer.tma, s.timer.tac, s.lcd.registers⟩

theorem tick_storedRegisters (s : State) : s.tick.storedRegisters = s.storedRegisters := by
  obtain ⟨hreg, hsource⟩ := tick_dma_registers s
  obtain ⟨htma, htac⟩ := tick_timer_registers s
  rw [State.storedRegisters, tick_ie, tick_bootEnabled, tick_mbc1, tick_joySelect, hreg, hsource, htma, htac, tick_lcd,
    displayTick_registers, State.storedRegisters]

theorem runSchedule_storedRegisters {i : Instr} {s : State} (hi : i ≠ .cbPrefix) (h : Claim.stores i s = []) :
    (runSchedule (schedule i) s).storedRegisters = s.storedRegisters := by
  refine runSchedule_storing (P := fun u => u.storedRegisters = s.storedRegisters) (A := [])
    (fun u hu => (tick_storedRegisters u).trans hu) (fun m u hv hu hstores => ?_) _ s (vector_notMem_schedule i) rfl ?_
  · exact (run_memory State.storedRegisters (fun _ _ _ _ _ _ _ _ _ _ _ => rfl) m hv u
      (fun a ha => absurd (hstores a ha) (List.not_mem_nil))).trans hu
  · rw [scheduleStores_eq hi, h]
    exact fun a ha => ha

/-- Settles O42: each register has its class of M-cycles that write it, and the tables say whose schedules hold one; the device registers
change by a store only. -/
theorem engineRegistersChangeOnlyWhereNamed : Obligations.EngineRegistersChangeOnlyWhereNamed := by
  intro i s t hwf h
  have hcb := ne_cbPrefix_of_wellFormed hwf
  refine ⟨?sp, ?pc, fun hdi hei hreti => (exec_ime hei hdi hreti h).symm, ?halt, ?log, ?inflight, ?params, ?stored⟩
  all_goals rw [exec_next hcb h]
  case sp =>
    intro hsp
    have hall := schedule_writesSp i
    rw [hsp, Bool.false_or] at hall
    exact schedule_field State.sp tick_sp (fun m hm s => run_sp hm s) hall s
  case pc =>
    intro hpc
    have hall := schedule_writesPc i
    rw [hpc, Bool.false_or] at hall
    exact schedule_field State.pc tick_pc (fun m hm s => run_pc hm s) hall s
  case halt =>
    intro hi
    exact ⟨schedule_field State.halted tick_halted (fun m hm s => (run_halt hm s).1) (schedule_writesHalt hi) s,
      schedule_field State.haltBug tick_haltBug (fun m hm s => (run_halt hm s).2) (schedule_writesHalt hi) s⟩
  case log =>
    intro hi
    exact schedule_field State.diagnostics tick_diagnostics (fun m hm s => run_diagnostics_of_not_logs hm s) (schedule_logs hi) s
  case inflight => exact runSchedule_field State.inflight tick_inflight _ (fun m _ s => run_inflight m s) s
  case params => exact runSchedule_field State.params tick_params _ (fun m _ s => run_params m s) s
  case stored =>
    intro hstores
    have hall := runSchedule_storedRegisters hcb hstores
    have hlcd := congrArg StoredRegisters.lcd hall
    exact ⟨congrArg StoredRegisters.ie hall, congrArg StoredRegisters.bootEnabled hall, congrArg StoredRegisters.mbc1 hall,
      congrArg StoredRegisters.joySelect hall, congrArg StoredRegisters.dmaReg hall, congrArg StoredRegisters.dmaSource hall,
      congrArg StoredRegisters.tma hall, congrArg StoredRegisters.tac hall, registers_eq_iff.mp hlcd⟩

end Sys2Proof.Machine
end

section
/-! PROOFS. The bytes of memory that an instruction leaves (R61, R68, R94, R95): a store reaches one byte of RAM or of external RAM, or one
register; no instruction stores both into the bank controller and into the external RAM it maps. -/
namespace Sys2Proof.Machine

/-! ## A bus write, by what it reaches of memory -/

def InEram (a : Word) : Prop := 0xA000 ≤ a.toNat ∧ a.toNat ≤ 0xBFFF

/-- A write outside RAM and external RAM moves no byte of either; the bank controller answers below 0x8000, the DMA controller at 0xFF46. -/
structure State.MemoryKept (t s : State) (a : Word) : Prop where
  ram : ∀ r, t.ram r = s.ram r
  eram : t.eram = s.eram
  dma : a ≠ 0xFF46 → t.dma = s.dma
  mbc1 : 0x8000 ≤ a.toNat → t.mbc1 = s.mbc1

theorem busWrite_memoryKept (s : State) {a : Word} (v : Byte) (hram : ¬ Claim.isRam a) (heram : ¬ InEram a) :
    (s.busWrite a v).MemoryKept s a := by
  unfold Claim.isRam at hram
  unfold InEram at heram
  refine busWrite_cases (P := fun t => t.MemoryKept s a) s a v ?rom (by omega) (by omega) (by omega) (by omega) (by omega)
    ?joypad ?timer ?iflag ?dma ?lcd ?boot (by omega) ?ie ?none
  case rom =>
    intro h
    unfold State.writeRom
    split
    · exact ⟨fun _ => rfl, rfl, fun _ => rfl, fun _ => rfl⟩
    · exact ⟨fun _ => rfl, rfl, fun _ => rfl, fun h' => by omega⟩
  case joypad | iflag | ie => exact fun _ => ⟨fun _ => rfl, rfl, fun _ => rfl, fun _ => rfl⟩
  case timer => exact fun _ _ => ⟨fun _ => rfl, rfl, fun _ => rfl, fun _ => rfl⟩
  case dma => exact fun h => ⟨fun _ => rfl, rfl, fun h' => absurd (BitVec.eq_of_toNat_eq h) h', fun _ => rfl⟩
  case lcd =>
    intro _ _
    rw [writeLcdReg_other]
    exact ⟨fun _ => rfl, rfl, fun _ => rfl, fun _ => rfl⟩
  case boot =>
    intro _
    unfold State.writeBoot
    split <;> exact ⟨fun _ => rfl, rfl, fun _ => rfl, fun _ => rfl⟩
  case none => exact ⟨fun _ => rfl, rfl, fun _ => rfl, fun _ => rfl⟩

theorem eramOffset_congr {s t : State} (hparams : t.params = s.params) (hmbc1 : t.mbc1 = s.mbc1) (n : Nat) :
    t.eramOffset n = s.eramOffset n := by
  unfold State.eramOffset
  rw [hparams, hmbc1]

theorem tick_memoryOk {s : State} (h : s.MemoryOk) : s.tick.MemoryOk := by
  obtain ⟨hvram, hwram, hoam, hhram, heram⟩ := h
  rw [State.MemoryOk, tick_vram, tick_wram, tick_hram, tick_eram, tick_params, tick_oam]
  exact ⟨hvram, hwram, dmaTick_oam 4 (by simpa using hoam), hhram, heram⟩

theorem busWrite_memoryOk {s : State} (h : s.MemoryOk) (a : Word) (v : Byte) : (s.busWrite a v).MemoryOk := by
  have ⟨hvram, hwram, hoam, hhram, heram⟩ := h
  refine busWrite_cases (P := State.MemoryOk) s a v ?rom ?vram ?eram ?wram ?echo ?oam ?joypad ?timer ?iflag ?dma ?lcd ?boot ?hram ?ie h
  case rom => intro _; unfold State.writeRom; split <;> exact h
  case vram => exact fun _ _ => ⟨⟨Memory.wf_write hvram.1 _ _, Memory.within_write hvram.2 (by omega) _⟩, hwram, hoam, hhram, heram⟩
  case eram =>
    intro _ _
    unfold State.writeEram
    split
    next off hoff =>
      exact ⟨hvram, hwram, hoam, hhram, Memory.wf_write heram.1 _ _, Memory.within_write heram.2 (eramOffset_lt hoff) _⟩
    next => exact h
  case wram | echo =>
    exact fun _ _ => ⟨hvram, ⟨Memory.wf_write hwram.1 _ _, Memory.within_write hwram.2 (by omega) _⟩, hoam, hhram, heram⟩
  case oam => exact fun _ _ => ⟨hvram, hwram, ⟨Memory.wf_write hoam.1 _ _, Memory.within_write hoam.2 (by omega) _⟩, hhram, heram⟩
  case joypad | iflag | dma | ie => exact fun _ => h
  case timer => exact fun _ _ => h
  case lcd => intro _ _; rw [writeLcdReg_other]; exact h
  case boot => intro _; unfold State.writeBoot; split <;> exact h
  case hram => exact fun _ _ => ⟨hvram, hwram, hoam, ⟨Memory.wf_write hhram.1 _ _, Memory.within_write hhram.2 (by omega) _⟩, heram⟩

/-! ## What an instruction that stores to given addresses keeps -/

/-- An address that a list of stores leaves: none of them is its byte, and no transfer touches it. -/
def Untouched (A : List Word) (s : State) (a : Word) : Prop :=
  Claim.isRam a ∧ (∀ b ∈ A, ¬ Claim.sameByte a b) ∧ (Claim.isOam a → s.dma.active = false ∧ (0xFF46 : Word) ∉ A)

/-- A byte of external RAM that a list of stores leaves. -/
def UntouchedEram (A : List Word) (s : State) (off : Nat) : Prop :=
  ∀ b ∈ A, ¬ (0xA000 ≤ b.toNat ∧ b.toNat ≤ 0xBFFF ∧ s.eramOffset b.toNat = some off)

/-- What stores to the addresses `A` leave of a state, while they go on. -/
structure State.KeptBut (t : State) (A : List Word) (s : State) : Prop where
  memory : t.MemoryOk
  ram : ∀ a, Untouched A s a → t.busRead a = s.busRead a
  eram : ∀ off, UntouchedEram A s off → t.eram.read off = s.eram.read off
  idle : s.dma.active = false → (0xFF46 : Word) ∉ A → t.dma.active = false
  params : t.params = s.params
  banks : (∃ b ∈ A, InEram b) → t.mbc1 = s.mbc1

section
variable {A : List Word} {s t : State}

theorem keptBut_refl (h : s.MemoryOk) : s.KeptBut A s where
  memory := h
  ram _ _ := rfl
  eram _ _ := rfl
  idle h _ := h
  params := rfl
  banks _ := rfl

theorem State.KeptBut.tick (h : t.KeptBut A s) : t.tick.KeptBut A s where
  memory := tick_memoryOk h.memory
  ram a ha := by
    refine Eq.trans ?_ (h.ram a ha)
    obtain ⟨haram, -, hoam⟩ := ha
    by_cases ho : Claim.isOam a
    · obtain ⟨hidle, hA⟩ := hoam ho
      rw [busRead_eq_readCell _ haram, busRead_eq_readCell _ haram, State.readCell, tick_ram (h.idle hidle hA), State.readCell]
    · refine tick_busRead t ?_
      unfold Claim.isRam at haram
      unfold Claim.isOam at ho
      omega
  eram off hoff := by rw [tick_eram]; exact h.eram off hoff
  idle hidle hA := by rw [(tick_dma_idle (h.idle hidle hA)).2]; exact h.idle hidle hA
  params := by rw [tick_params]; exact h.params
  banks hb := by rw [tick_mbc1]; exact h.banks hb

/-! One of the stores, when none of them reaches the bank controller while another reaches external RAM. -/

theorem State.KeptBut.busWrite_ram (h : t.KeptBut A s) {b : Word} (hb : b ∈ A) (v : Byte) (hram : Claim.isRam b) :
    (t.busWrite b v).KeptBut A s := by
  have hother : (t.busWrite b v).eram = t.eram ∧ (t.busWrite b v).dma = t.dma ∧ (t.busWrite b v).mbc1 = t.mbc1 := by
    rw [busWrite_eq_writeCell t v hram, State.writeCell]
    cases (ramCell b).1 <;> exact ⟨rfl, rfl, rfl⟩
  obtain ⟨heram, hdma, hmbc1⟩ := hother
  refine ⟨busWrite_memoryOk h.memory b v, fun a ha => ?_, ?_, ?_, (busWrite_params t b v).trans h.params, ?_⟩
  · have hne : ramCell b ≠ ramCell a := fun e => ha.2.1 b hb ((ramCell_eq_iff_sameByte ha.1 hram).mp e.symm)
    rw [busWrite_busRead_ram h.memory v hram ha.1, if_neg hne, h.ram a ha]
  · rw [heram]; exact h.eram
  · rw [hdma]; exact h.idle
  · rw [hmbc1]; exact h.banks

theorem State.KeptBut.busWrite_eram (h : t.KeptBut A s) {b : Word} (hb : b ∈ A) (v : Byte) (heram : InEram b) :
    (t.busWrite b v).KeptBut A s := by
  have hoff : t.eramOffset b.toNat = s.eramOffset b.toNat := eramOffset_congr h.params (h.banks ⟨b, hb, heram⟩) _
  obtain ⟨hlo, hhi⟩ := heram
  have hmem := busWrite_memoryOk h.memory b v
  rw [Machine.busWrite_eram t v hlo hhi] at hmem ⊢
  rw [State.writeEram, hoff] at hmem ⊢
  split at hmem
  next off heq =>
    refine ⟨hmem, fun a ha => ?_, fun off' hoff' => ?_, h.idle, h.params, h.banks⟩
    · rw [busRead_eq_readCell _ ha.1, ← h.ram a ha, busRead_eq_readCell _ ha.1]; rfl
    · have hne : off ≠ off' := fun e => hoff' b hb ⟨hlo, hhi, e ▸ heq⟩
      exact (Memory.read_write h.memory.2.2.2.2.1 _ _ _).trans ((if_neg hne).trans (h.eram off' hoff'))
  next => exact h

theorem State.KeptBut.busWrite (h : t.KeptBut A s) (hbanks : ∀ b ∈ A, ∀ c ∈ A, InEram c → 0x8000 ≤ b.toNat) {b : Word} (hb : b ∈ A)
    (v : Byte) : (t.busWrite b v).KeptBut A s := by
  by_cases hram : Claim.isRam b
  · exact h.busWrite_ram hb v hram
  by_cases heram : InEram b
  · exact h.busWrite_eram hb v heram
  obtain ⟨kram, keram, kdma, kmbc1⟩ := busWrite_memoryKept t v hram heram
  refine ⟨busWrite_memoryOk h.memory b v, fun a ha => ?_, ?_, fun hidle hA => ?_, (busWrite_params t b v).trans h.params, ?_⟩
  · rw [busRead_eq_readCell _ ha.1, State.readCell, kram, ← h.ram a ha, busRead_eq_readCell _ ha.1, State.readCell]
  · rw [keram]; exact h.eram
  · rw [kdma (fun e => hA (e ▸ hb))]; exact h.idle hidle hA
  · rintro ⟨c, hc, hin⟩
    rw [kmbc1 (hbanks b hb c hc hin)]
    exact h.banks ⟨c, hc, hin⟩

theorem State.KeptBut.memWrite (h : t.KeptBut A s) (hbanks : ∀ b ∈ A, ∀ c ∈ A, InEram c → 0x8000 ≤ b.toNat) {b : Word} (hb : b ∈ A)
    (v : Byte) : (t.memWrite b v).KeptBut A s :=
  memWrite_keeps (P := fun u => u.KeptBut A s) h (h.busWrite hbanks hb v)

end

/-! ## A whole instruction -/

/-- What register writes leave and every store of an M-cycle keeps, its work keeps. -/
theorem run_keeps_of_store {P : State → Prop}
    (hf : ∀ (s : State) g fl sp pc im ei hb ha la dg,
      P { s with regs := g, flags := fl, sp := sp, pc := pc, ime := im, eiDelay := ei, haltBug := hb, halted := ha, latches := la,
                 diagnostics := dg } = P s)
    {m : MicroOp} (hv : m ≠ .vector) {s : State} (h : P s) (hw : ∀ a, m.storesTo s = some a → ∀ u v, P u → P (u.memWrite a v)) :
    P (m.run s) :=
  (run_memory P hf m hv s (fun a ha u v hu _ _ _ => propext ⟨fun _ => h, fun _ => hw a ha u v (hu ▸ h)⟩)).mpr h

/-- LDH (n),A has one operand byte. -/
theorem ldh_store_bytes {i : Instr} (hi : i ≠ .cbPrefix) {rest : List Byte} (he : encodeFetched i = 0xE0 :: rest) :
    rest.length ≤ 1 := by
  have hdecode := decodeFetched_encodeFetched hi []
  rw [he, List.append_nil] at hdecode
  match rest, hdecode with
  | [], _ | [_], _ => simp
  | _ :: _ :: _, hdecode => cases hdecode

/-- The stores of an instruction are at one address or at two neighbours. -/
theorem stores_neighbours {i : Instr} (hi : i ≠ .cbPrefix) (s : State) : ∃ a, ∀ b ∈ Claim.stores i s, b = a ∨ b = a + 1 := by
  have one (a : Word) : ∃ c, ∀ b ∈ [a], b = c ∨ b = c + 1 := ⟨a, by simp⟩
  have none : ∃ c : Word, ∀ b ∈ ([] : List Word), b = c ∨ b = c + 1 := ⟨0, by simp⟩
  have push (a : Word) : ∃ c, ∀ b ∈ [a - 1, a - 2], b = c ∨ b = c + 1 := ⟨a - 2, by simp; bv_omega⟩
  have next (a : Word) : ∃ c, ∀ b ∈ [a, a + 1], b = c ∨ b = c + 1 := ⟨a, by simp⟩
  have high {rest : List Byte} (h : rest.length ≤ 1) (f : Byte → Word) : ∃ c, ∀ b ∈ rest.map f, b = c ∨ b = c + 1 := by
    match rest, h with
    | [], _ => exact none
    | [n], _ => exact one (f n)
  unfold Claim.stores
  dsimp only
  split
  next => split <;> [exact one _; exact none]
  next op rest _ he =>
    by_cases hop : op = 0xE0
    · subst hop
      exact high (ldh_store_bytes hi he) _
    · rw [if_neg hop]
      (repeat' split) <;> first | exact one _ | exact none | exact push _ | exact next _
  next => exact none

/-- So none reaches the bank controller when another reaches external RAM. -/
theorem stores_banks {i : Instr} (hi : i ≠ .cbPrefix) (s : State) :
    ∀ b ∈ Claim.stores i s, ∀ c ∈ Claim.stores i s, InEram c → 0x8000 ≤ b.toNat := by
  obtain ⟨a, ha⟩ := stores_neighbours hi s
  intro b hb c hc hin
  unfold InEram at hin
  obtain rfl | rfl := ha b hb <;> obtain rfl | rfl := ha c hc <;> bv_omega

/-- Settles O43: ticks and register writes move no byte of memory but OAM's under a transfer, and each store reaches one byte. -/
theorem onlyStoredBytesOfMemoryChange : Obligations.OnlyStoredBytesOfMemoryChange := by
  intro i s t hwf hmem h
  have hcb := ne_cbPrefix_of_wellFormed hwf
  have hkept : t.KeptBut (Claim.stores i s) s := by
    rw [exec_next hcb h]
    refine runSchedule_storing (P := fun u => u.KeptBut (Claim.stores i s) s) (A := Claim.stores i s) (fun u hu => hu.tick)
      (fun m u hv hu hstores => ?work) _ s (vector_notMem_schedule i) (keptBut_refl hmem) ?stores
    case work =>
      exact run_keeps_of_store (P := fun u => u.KeptBut (Claim.stores i s) s)
        (fun u _ _ _ _ _ _ _ _ _ _ => propext ⟨fun h => ⟨h.memory, h.ram, h.eram, h.idle, h.params, h.banks⟩,
          fun h => ⟨h.memory, h.ram, h.eram, h.idle, h.params, h.banks⟩⟩) hv hu (fun a ha u v hu => hu.memWrite (stores_banks hcb s)
          (hstores a ha) v)
    case stores => rw [scheduleStores_eq hcb]; exact fun a ha => ha
  exact ⟨fun a ha hb hoam => hkept.ram a ⟨ha, hb, hoam⟩, fun off hoff => hkept.eram off hoff⟩

end Sys2Proof.Machine
end

section
/-! PROOFS. DAA (43_alu8.md): the adjustment as a number, and what it makes of the binary sum or difference of two decimal bytes, digit by digit. -/
namespace Sys2Proof.Machine

/-! ## The result as a number -/

/-- The adjusted accumulator as a number. -/
def daaValue (f : Flags) (a : Nat) : Nat :=
  if f.n then (a + 256 - Claim.daaAdjust f a) % 256 else (a + Claim.daaAdjust f a) % 256

/-- The two halves of the adjustment have no bit in common. -/
theorem toNat_halves (low high : Bool) :
    ((if low then (0x06 : Byte) else 0) ||| (if high then 0x60 else 0)).toNat =
      (if low = true then 0x06 else 0) + (if high = true then 0x60 else 0) := by
  cases low <;> cases high <;> rfl

/-- A byte and its test for zero, by its number. -/
theorem byte_zero_of_toNat {x : Byte} {n : Nat} (h : x.toNat = n) : x = BitVec.ofNat 8 n ∧ decide (x = 0) = decide (n = 0) := by
  subst h
  exact ⟨by simp, decide_byte_eq_zero x⟩

theorem daaResult_eq (f : Flags) (a : Byte) : daaResult f a = (BitVec.ofNat 8 (daaValue f a.toNat),
    { f with z := decide (daaValue f a.toNat = 0), h := false, c := f.c || (!f.n && decide (0x99 < a.toNat)) }) := by
  have ha := a.isLt
  obtain ⟨z, n, h, c⟩ := f
  cases n with
  | true =>
    have hadj : ((if h then (0x06 : Byte) else 0) ||| (if c then 0x60 else 0)).toNat = Claim.daaAdjust ⟨z, true, h, c⟩ a.toNat := by
      rw [toNat_halves]
      simp [Claim.daaAdjust]
    have hvalue : (a - ((if h then (0x06 : Byte) else 0) ||| (if c then 0x60 else 0))).toNat = daaValue ⟨z, true, h, c⟩ a.toNat := by
      rw [BitVec.toNat_sub, hadj, daaValue, if_pos rfl]
      have hle : Claim.daaAdjust ⟨z, true, h, c⟩ a.toNat < 256 := hadj ▸ BitVec.isLt _
      omega
    obtain ⟨hbyte, hzero⟩ := byte_zero_of_toNat hvalue
    rw [daaResult, if_pos rfl]
    simp only [hzero]
    rw [hbyte]
    simp
  | false =>
    have hadj : ((if h || decide (9 < a.toNat % 16) then (0x06 : Byte) else 0) |||
        (if c || decide (0x99 < a.toNat) then 0x60 else 0)).toNat = Claim.daaAdjust ⟨z, false, h, c⟩ a.toNat := by
      rw [toNat_halves]
      simp [Claim.daaAdjust]
    have hvalue : (a + ((if h || decide (9 < a.toNat % 16) then (0x06 : Byte) else 0) |||
        (if c || decide (0x99 < a.toNat) then 0x60 else 0))).toNat = daaValue ⟨z, false, h, c⟩ a.toNat := by
      rw [BitVec.toNat_add, hadj, daaValue, if_neg Bool.false_ne_true]
    obtain ⟨hbyte, hzero⟩ := byte_zero_of_toNat hvalue
    rw [daaResult, if_neg Bool.false_ne_true]
    simp only [hzero]
    rw [hbyte]
    simp

theorem exec_daa_eq (s : State) : exec .daa s = .next { s with
    regs := { s.regs with a := BitVec.ofNat 8 (daaValue s.flags s.regs.a.toNat) },
    flags := { s.flags with z := decide (daaValue s.flags s.regs.a.toNat = 0), h := false,
                            c := s.flags.c || (!s.flags.n && decide (0x99 < s.regs.a.toNat)) } } := by
  have hdaa : exec .daa s = .next (s.setResult .a (daaResult s.flags s.regs.a)) := rfl
  rw [hdaa, daaResult_eq]
  rfl

/-! ## Decimal arithmetic -/

/-- A number of two decimal digits that is given up to a carry of 100, and its bytes. -/
def IsDecimal (r : Nat) (carry : Prop) (sum : Nat) : Prop :=
  ∃ d e, d ≤ 9 ∧ e ≤ 9 ∧ r = 16 * d + e ∧ ((carry ∧ 10 * d + e + 100 = sum) ∨ (¬ carry ∧ 10 * d + e = sum))

section
variable {p q u v : Nat} (hp : p ≤ 9) (hq : q ≤ 9) (hu : u ≤ 9) (hv : v ≤ 9) {f : Flags}
include hp hq hu hv

/-- A carry out of a digit is a binary half carry or a digit above 9; the adjustment is 6 in the digit. -/
theorem decimal_sum (hn : f.n = false) (hh : f.h = decide (15 < q + v)) (hc : f.c = decide (255 < 16 * p + q + (16 * u + v))) :
    IsDecimal (daaValue f ((16 * p + q + (16 * u + v)) % 256)) (f.c = true ∨ 0x99 < (16 * p + q + (16 * u + v)) % 256)
      (p * 10 + q + (u * 10 + v)) := by
  simp only [daaValue, Claim.daaAdjust, hn, hh, hc, decide_eq_true_eq, Bool.false_eq_true, if_false, true_and]
  by_cases hlow : 9 < q + v
  · rw [if_pos (by omega)]
    by_cases hhigh : 99 < p * 10 + q + (u * 10 + v)
    · rw [if_pos (by omega)]
      exact ⟨p + u + 1 - 10, q + v - 10, by omega⟩
    · rw [if_neg (by omega)]
      exact ⟨p + u + 1, q + v - 10, by omega⟩
  · rw [if_neg (by omega)]
    by_cases hhigh : 99 < p * 10 + q + (u * 10 + v)
    · rw [if_pos (by omega)]
      exact ⟨p + u - 10, q + v, by omega⟩
    · rw [if_neg (by omega)]
      exact ⟨p + u, q + v, by omega⟩

/-- A borrow out of a digit is the binary one. -/
theorem decimal_difference (hn : f.n = true) (hh : f.h = decide (q < v)) (hc : f.c = decide (16 * p + q < 16 * u + v)) :
    IsDecimal (daaValue f ((16 * p + q + 256 - (16 * u + v)) % 256)) (f.c = false) (p * 10 + q + 100 - (u * 10 + v)) := by
  simp only [daaValue, Claim.daaAdjust, hn, hh, hc, decide_eq_true_eq, if_true, reduceCtorEq, false_and, or_false, decide_eq_false_iff_not]
  by_cases hlow : q < v
  · rw [if_pos hlow]
    by_cases hhigh : 16 * p + q < 16 * u + v
    · rw [if_pos hhigh]
      exact ⟨p + 10 - 1 - u, q + 10 - v, by omega⟩
    · rw [if_neg hhigh]
      exact ⟨p - 1 - u, q + 10 - v, by omega⟩
  · rw [if_neg hlow]
    by_cases hhigh : 16 * p + q < 16 * u + v
    · rw [if_pos hhigh]
      exact ⟨p + 10 - u, q - v, by omega⟩
    · rw [if_neg hhigh]
      exact ⟨p - u, q - v, by omega⟩

end

/-- What DAA answers when it finds a decimal number. -/
theorem exec_daa_decimal {t : State} {sum : Nat} {carry : Prop} (h : IsDecimal (daaValue t.flags t.regs.a.toNat) carry sum) :
    ∃ u, exec .daa t = .next u ∧ Claim.isBcd u.regs.a ∧ Claim.bcdValue u.regs.a = sum % 100 ∧
      u.flags.c = (t.flags.c || (!t.flags.n && decide (0x99 < t.regs.a.toNat))) ∧ (carry ↔ 100 ≤ sum) := by
  obtain ⟨d, e, hd, he, hvalue, hsum⟩ := h
  have htoNat : (BitVec.ofNat 8 (16 * d + e)).toNat = 16 * d + e := by rw [BitVec.toNat_ofNat]; omega
  refine ⟨_, exec_daa_eq t, ?bcd, ?value, rfl, ?carry⟩
  case bcd =>
    rw [hvalue, Claim.isBcd, htoNat]
    omega
  case value =>
    rw [hvalue, Claim.bcdValue, htoNat]
    omega
  case carry =>
    obtain ⟨hcarry, hsum⟩ | ⟨hcarry, hsum⟩ := hsum
    · exact iff_of_true hcarry (by omega)
    · exact iff_of_false hcarry (by omega)

section
variable {s : State} {v : Byte} (hx : Claim.isBcd s.regs.a) (hy : Claim.isBcd v)
include hx hy

theorem daa_of_sum : ∃ u, exec .daa (Claim.added s v false) = .next u ∧ Claim.isBcd u.regs.a ∧
    Claim.bcdValue u.regs.a = (Claim.bcdValue s.regs.a + Claim.bcdValue v) % 100 ∧
    u.flags.c = decide (100 ≤ Claim.bcdValue s.regs.a + Claim.bcdValue v) := by
  have hxd := Nat.div_add_mod s.regs.a.toNat 16
  have hyd := Nat.div_add_mod v.toNat 16
  have ha : (Claim.added s v false).regs.a.toNat = (s.regs.a.toNat + v.toNat) % 256 := BitVec.toNat_ofNat _ 8
  have hdec := decimal_sum hx.2 hx.1 hy.2 hy.1 (f := (Claim.added s v false).flags) rfl rfl (by rw [hxd, hyd]; rfl)
  rw [hxd, hyd, ← ha] at hdec
  obtain ⟨u, hu, hbcd, hvalue, hc, hcarry⟩ := exec_daa_decimal hdec
  refine ⟨u, hu, hbcd, hvalue, ?_⟩
  have hn : (Claim.added s v false).flags.n = false := rfl
  rw [hc, hn, Claim.bcdValue, Claim.bcdValue, Bool.eq_iff_iff, decide_eq_true_eq, ← hcarry]
  simp

theorem daa_of_difference : ∃ u, exec .daa (Claim.subtracted s v false) = .next u ∧ Claim.isBcd u.regs.a ∧
    Claim.bcdValue u.regs.a = (Claim.bcdValue s.regs.a + 100 - Claim.bcdValue v) % 100 ∧
    u.flags.c = decide (Claim.bcdValue s.regs.a < Claim.bcdValue v) := by
  have hxd := Nat.div_add_mod s.regs.a.toNat 16
  have hyd := Nat.div_add_mod v.toNat 16
  have ha : (Claim.subtracted s v false).regs.a.toNat = (s.regs.a.toNat + 256 - v.toNat) % 256 := by
    have hsub : (Claim.subtracted s v false).regs.a = s.regs.a - v := BitVec.sub_zero _
    have hv := v.isLt
    rw [hsub, BitVec.toNat_sub]
    omega
  have hdec := decimal_difference hx.2 hx.1 hy.2 hy.1 (f := (Claim.subtracted s v false).flags) rfl rfl (by rw [hxd, hyd]; rfl)
  rw [hxd, hyd, ← ha] at hdec
  obtain ⟨u, hu, hbcd, hvalue, hc, hcarry⟩ := exec_daa_decimal hdec
  refine ⟨u, hu, hbcd, hvalue, ?_⟩
  have hn : (Claim.subtracted s v false).flags.n = true := rfl
  rw [hc, hn, Bool.not_true, Bool.false_and, Bool.or_false, Claim.bcdValue, Claim.bcdValue]
  cases hflag : (Claim.subtracted s v false).flags.c with
  | false =>
    have hle := hcarry.mp hflag
    exact (decide_eq_false (by omega)).symm
  | true =>
    have hlt : ¬ 100 ≤ s.regs.a.toNat / 16 * 10 + s.regs.a.toNat % 16 + 100 - (v.toNat / 16 * 10 + v.toNat % 16) :=
      fun h => absurd (hcarry.mpr h) (by simp [hflag])
    exact (decide_eq_true (by omega)).symm

end

/-- Settles O30: the model's adjustment is the rule's, and on the digits of two decimal bytes it makes the binary sum the decimal one. -/
theorem daaMakesBcdArithmeticDecimal : Obligations.DaaMakesBcdArithmeticDecimal := by
  refine ⟨fun s => ⟨encodedAs_of_fetched (by decide) rfl rfl, exec_daa_eq s⟩, fun s v hx hy => ⟨?add, ?sub⟩⟩
  case add =>
    obtain ⟨u, hu⟩ := daa_of_sum hx hy
    exact ⟨_, u, (exec_aluN_eq .add v s).trans (congrArg _ (accumulate_add s v)), hu⟩
  case sub =>
    obtain ⟨u, hu⟩ := daa_of_difference hx hy
    exact ⟨_, u, (exec_aluN_eq .sub v s).trans (congrArg _ (accumulate_sub s v)), hu⟩

end Sys2Proof.Machine
end

section
/-! PROOFS. The address space, row by row (R61, R62, R98), and the cartridge behind its two windows (R85 to R94). -/
namespace Sys2Proof.Machine

/-! ## Bytes put together of fields -/

theorem extractLsb_eq_ofNat {w : Nat} (v : BitVec w) (start len : Nat) :
    v.extractLsb' start len = BitVec.ofNat len (v.toNat / 2 ^ start) := by
  apply BitVec.eq_of_toNat_eq
  rw [BitVec.extractLsb'_toNat, BitVec.toNat_ofNat, Nat.shiftRight_eq_div_pow]

/-- IE and IF read their five bits with ones above (R73, R78). -/
theorem interruptByte_eq (f : BitVec 5) : (0b111#3 ++ f : Byte) = BitVec.ofNat 8 (0xE0 + f.toNat) := by
  revert f
  decide

theorem joypadByte_eq (select : BitVec 2) (j : BitVec 4) :
    (0b11#2 ++ select ++ j : Byte) = BitVec.ofNat 8 (0xC0 + select.toNat * 16 + j.toNat) := by
  revert select j
  decide

/-! ## Row 0 and row 1 -/

theorem dmaBlocks_iff (s : State) (a : Word) :
    s.dmaBlocks a = true ↔ s.dma.active = true ∧ ¬ (0xFF80 ≤ a.toNat ∧ a.toNat ≤ 0xFFFE) ∧ a.toNat ≠ 0xFF46 := by
  rw [State.dmaBlocks, Bool.and_eq_true, Bool.and_eq_true, Bool.not_eq_true', ← Bool.not_eq_true, Bool.and_eq_true, decide_eq_true_eq,
    decide_eq_true_eq, decide_eq_true_eq, and_assoc]

theorem bootCovers_iff (s : State) (n : Nat) :
    s.bootCovers n = true ↔ s.bootEnabled = true ∧ n < s.params.bootLen ∧ n < 0x100 := by
  simp [State.bootCovers, and_assoc]

/-- Settles O45: each row of the decode is a lemma of the model's bus; the registers' bytes are their fields side by side. -/
theorem busDecodesRowByRow : Obligations.BusDecodesRowByRow := by
  intro s a v
  dsimp only
  rw [← bootCovers_iff]
  refine ⟨?blocked, ?allowed, fun h => busRead_boot s h, fun h => ⟨fun hb => busRead_rom s h (by simpa using hb), busWrite_rom s v h⟩,
    fun h h' => ⟨busRead_vram s h h', busWrite_vram s v h h'⟩, fun h h' => ⟨busRead_eram s h h', busWrite_eram s v h h'⟩,
    fun h h' => ⟨busRead_wram s h h', busWrite_wram s v h h'⟩, fun h h' => ⟨busRead_echo s h h', busWrite_echo s v h h'⟩,
    fun h h' => ⟨busRead_oam s h h', busWrite_oam s v h h'⟩, ?joypad, ?iflag, fun h => ⟨busRead_bootOff s h, busWrite_bootOff s v h⟩,
    fun h h' => ⟨busRead_hram s h h', busWrite_hram s v h h'⟩, ?ie, ?unmapped⟩
  case blocked =>
    intro hactive hhram hreg
    have hblocked := (dmaBlocks_iff s a).mpr ⟨hactive, hhram, hreg⟩
    exact ⟨memRead_blocked s hblocked, memWrite_blocked s v hblocked⟩
  case allowed =>
    intro h
    have hallowed : s.dmaBlocks a = false := by
      rw [← Bool.not_eq_true, dmaBlocks_iff]
      rintro ⟨hactive, hhram, hreg⟩
      obtain h | h | h := h
      · exact Bool.false_ne_true (h.symm.trans hactive)
      · exact hhram h
      · exact hreg h
    exact ⟨memRead_of_not_blocked s hallowed, memWrite_of_not_blocked s v hallowed⟩
  case joypad =>
    intro h
    refine ⟨⟨Config.joypad s.clock, ?_⟩, ?_⟩
    · rw [busRead_joypad s h, State.readJoypad, joypadByte_eq]
    · rw [busWrite_joypad s v h, State.writeJoypad, extractLsb_eq_ofNat]; rfl
  case iflag =>
    intro h
    rw [busRead_if s h, busWrite_if s v h, State.readIf, interruptByte_eq, State.writeIf, extractLsb_eq_ofNat, pow_zero, Nat.div_one]
    exact ⟨rfl, rfl⟩
  case ie =>
    intro h
    rw [busRead_ie s h, busWrite_ie s v h, State.readIe, interruptByte_eq, State.writeIe, extractLsb_eq_ofNat, pow_zero, Nat.div_one]
    exact ⟨rfl, rfl⟩
  case unmapped =>
    rintro (⟨h, h'⟩ | h | h | ⟨h, h'⟩ | h | h)
    · exact ⟨busRead_hole s h h', busWrite_hole s v h h'⟩
    · exact ⟨busRead_ioHole s (.inl h), busWrite_ioHole s v (.inl h)⟩
    · exact ⟨busRead_ioHole s (.inr (.inl h)), busWrite_ioHole s v (.inr (.inl h))⟩
    · exact ⟨busRead_sound s h h', busWrite_sound s v h h'⟩
    · exact ⟨busRead_ioHole s (.inr (.inr (.inl h))), busWrite_ioHole s v (.inr (.inr (.inl h)))⟩
    · exact ⟨busRead_ioHole s (.inr (.inr (.inr h))), busWrite_ioHole s v (.inr (.inr (.inr h)))⟩

/-! ## The cartridge's windows -/

/-- A selected bank lies in the image: the bank number is below the number of banks (R93, decision D27). -/
theorem romOffset_lt {p : Params} {bank n : Nat} (haccepted : p.romSize ≠ 0 ∧ p.romSize % 0x4000 = 0)
    (hbank : bank < p.romSize / 0x4000) (hn : n < 0x4000) : bank * 0x4000 + n < p.romSize := by
  omega

theorem fixedBank_lt (m : Mbc1) {banks : Nat} (h : 0 < banks) : m.fixedBank banks < banks := by
  unfold Mbc1.fixedBank
  split
  · exact Nat.mod_lt _ h
  · exact h

theorem switchBank_lt (m : Mbc1) {banks : Nat} (h : 0 < banks) : m.switchBank banks < banks := by
  unfold Mbc1.switchBank
  dsimp only
  split
  next hone => exact hone.2
  next => exact Nat.mod_lt _ h

theorem readRom_romOnly {s : State} (hkind : s.params.cartKind = .romOnly) (n : Nat) :
    s.readRom n = if n < s.params.romSize then s.params.rom.read n else 0xFF := by
  rw [State.readRom, State.romOffset, hkind]
  rfl

/-- The bank of external RAM an access reaches: a plain cartridge has the first alone. -/
def State.eramBank (s : State) : Nat :=
  if s.params.cartKind = .mbc1 ∧ s.mbc1.bankMode = true then s.mbc1.bankHigh.toNat % Params.ramBankCount s.params else 0

/-- Where external RAM answers: inside its size, and, on an MBC1, when it is enabled. -/
abbrev State.eramAnswers (s : State) (n : Nat) : Prop :=
  s.eramBank * 0x2000 + (n - 0xA000) < s.params.eramSize ∧ (s.params.cartKind = .mbc1 → s.mbc1.ramEnabled = true)

theorem eramOffset_eq (s : State) (n : Nat) :
    s.eramOffset n = if s.eramAnswers n then some (s.eramBank * 0x2000 + (n - 0xA000)) else none := by
  obtain hkind | hkind : s.params.cartKind = .romOnly ∨ s.params.cartKind = .mbc1 := by cases s.params.cartKind <;> decide
  · simp [State.eramOffset, State.eramAnswers, State.eramBank, hkind]
  · simp [State.eramOffset, State.eramAnswers, State.eramBank, Mbc1.ramBank, hkind]

theorem readEram_eq (s : State) (n : Nat) :
    s.readEram n = if s.eramAnswers n then s.eram.read (s.eramBank * 0x2000 + (n - 0xA000)) else 0xFF := by
  by_cases h : s.eramAnswers n
  · rw [State.readEram, eramOffset_eq, if_pos h, if_pos h]
  · rw [State.readEram, eramOffset_eq, if_neg h, if_neg h]
    rfl

theorem writeEram_eq (s : State) (n : Nat) (v : Byte) : s.writeEram n v =
    if s.eramAnswers n then { s with eram := s.eram.write (s.eramBank * 0x2000 + (n - 0xA000)) v } else s := by
  by_cases h : s.eramAnswers n
  · rw [State.writeEram, eramOffset_eq, if_pos h, if_pos h]
  · rw [State.writeEram, eramOffset_eq, if_neg h, if_neg h]

/-- Settles O47: an accepted MBC1 image is whole banks, so a selected bank is inside it. -/
theorem cartridgesMapTheirWindows : Obligations.CartridgesMapTheirWindows := by
  intro s n haccepted
  dsimp only
  refine ⟨fun hkind => ⟨readRom_romOnly hkind n, ?eram⟩, fun hkind hn => ?fixed, fun hkind hlo hhi => ?switched, fun hkind => ?bank⟩
  case eram =>
    simp [readEram_eq, State.eramAnswers, State.eramBank, hkind]
  case bank =>
    simp [readEram_eq, State.eramAnswers, State.eramBank, Params.ramBankCount, hkind, and_comm]
  all_goals
    have hsize : s.params.romSize ≠ 0 ∧ s.params.romSize % 0x4000 = 0 := by simpa [Params.accepted, hkind] using haccepted
    have hbanks : 0 < s.params.romSize / 0x4000 := by omega
  case fixed =>
    have hoffset : s.romOffset n = s.mbc1.fixedBank (s.params.romSize / 0x4000) * 0x4000 + n := by
      rw [State.romOffset, hkind]
      exact if_pos hn
    rw [State.readRom, hoffset, if_pos (romOffset_lt hsize (fixedBank_lt s.mbc1 hbanks) hn)]
    rfl
  case switched =>
    have hoffset : s.romOffset n = s.mbc1.switchBank (s.params.romSize / 0x4000) * 0x4000 + (n - 0x4000) := by
      rw [State.romOffset, hkind]
      exact if_neg (by omega)
    rw [State.readRom, hoffset, if_pos (romOffset_lt hsize (switchBank_lt s.mbc1 hbanks) (by omega))]
    rfl

/-! ## Writes to the cartridge -/

theorem writeRom_mbc1 {s : State} (hkind : s.params.cartKind = .mbc1) (n : Nat) (v : Byte) :
    s.writeRom n v = { s with mbc1 := s.mbc1.writeReg n v } := by
  rw [State.writeRom, hkind]

/-- The zero test of `bankLow` on the five bits that are stored (R89). -/
theorem bankLow_eq (x : BitVec 5) : (if x = 0 then 1 else x) = BitVec.ofNat 5 (if x.toNat = 0 then 1 else x.toNat) := by
  revert x
  decide

theorem mbc1_writeReg_bankLow (m : Mbc1) {n : Nat} (v : Byte) (hlo : 0x2000 ≤ n) (hhi : n < 0x4000) :
    m.writeReg n v = { m with bankLow := BitVec.ofNat 5 (if v.toNat % 32 = 0 then 1 else v.toNat % 32) } := by
  have htoNat : (v.extractLsb' 0 5).toNat = v.toNat % 32 := by rw [BitVec.extractLsb'_toNat, Nat.shiftRight_zero]
  rw [Mbc1.writeReg, if_neg (by omega), if_pos hhi]
  dsimp only
  rw [bankLow_eq, htoNat]

theorem mbc1_writeReg_bankHigh (m : Mbc1) {n : Nat} (v : Byte) (hlo : 0x4000 ≤ n) (hhi : n < 0x6000) :
    m.writeReg n v = { m with bankHigh := BitVec.ofNat 2 v.toNat } := by
  rw [Mbc1.writeReg, if_neg (by omega), if_neg (by omega), if_pos hhi, extractLsb_eq_ofNat, pow_zero, Nat.div_one]

theorem mbc1_writeReg_bankMode (m : Mbc1) {n : Nat} (v : Byte) (hlo : 0x6000 ≤ n) :
    m.writeReg n v = { m with bankMode := decide (v.toNat % 2 = 1) } := by
  rw [Mbc1.writeReg, if_neg (by omega), if_neg (by omega), if_neg (by omega), BitVec.getLsbD, Nat.testBit_zero]

theorem mbc1_writeReg_ramEnabled (m : Mbc1) {n : Nat} (v : Byte) (h : n < 0x2000) :
    m.writeReg n v = { m with ramEnabled := decide (v.toNat % 16 = 0xA) } := by
  have htest : (v.extractLsb' 0 4 = 0xA) ↔ v.toNat % 16 = 0xA := by
    rw [← BitVec.toNat_inj, BitVec.extractLsb'_toNat, Nat.shiftRight_zero]
    rfl
  rw [Mbc1.writeReg, if_pos h, decide_eq_decide.mpr htest]

/-- Settles O48: each quarter of the window is one register of the bank controller. -/
theorem cartridgeWritesSetBanksAndRam : Obligations.CartridgeWritesSetBanksAndRam := by
  intro s n v
  refine ⟨fun hkind => by rw [State.writeRom, hkind], fun hkind => ?registers, ?eram⟩
  case registers =>
    rw [writeRom_mbc1 hkind]
    exact ⟨fun h => by rw [mbc1_writeReg_ramEnabled s.mbc1 v h], fun hlo hhi => by rw [mbc1_writeReg_bankLow s.mbc1 v hlo hhi],
      fun hlo hhi => by rw [mbc1_writeReg_bankHigh s.mbc1 v hlo hhi], fun hlo => by rw [mbc1_writeReg_bankMode s.mbc1 v hlo]⟩
  case eram =>
    dsimp only
    exact writeEram_eq s n v

end Sys2Proof.Machine
end

section
/-! PROOFS. The OAM DMA controller (R95 to R99, R413): one tick of an active transfer copies one byte; 160 of them copy a page. -/
namespace Sys2Proof.Machine

theorem mkWord_zero (v : Byte) : mkWord v 0x00 = BitVec.ofNat 16 (v.toNat * 256) := by
  have hv := v.isLt
  apply BitVec.eq_of_toNat_eq
  rw [toNat_mkWord, BitVec.toNat_ofNat, show (0x00 : Byte).toNat = 0 from rfl]
  omega

/-! ## One tick -/

/-- The copy of one byte, from a state whose clocks are counted. -/
theorem dmaCopyByte_oam_eq {s : State} (h : s.dma.index < 160) :
    s.dmaCopyByte.oam = s.oam.write s.dma.index (s.busRead (s.dma.source + BitVec.ofNat 16 s.dma.index)) := by
  simp only [State.dmaCopyByte, apply_ite State.oam, ite_self]
  exact if_pos h

/-- The counted clocks are read nowhere. -/
theorem busRead_withAcc (s : State) (acc : Nat) (a : Word) : State.busRead { s with dma := { s.dma with acc := acc } } a = s.busRead a := rfl

section
variable {s : State} (hactive : s.dma.active = true) (hacc : s.dma.acc = 0)
include hactive hacc

theorem dmaTick_active : s.dmaTick 4 = State.dmaCopyByte { s with dma := { s.dma with acc := 4 } } := by
  rw [State.dmaTick, if_pos hactive, hacc]
  exact if_pos ⟨Nat.le_refl 4, hactive⟩

theorem dmaTick_active_oam (hindex : s.dma.index < 160) :
    (s.dmaTick 4).oam = s.oam.write s.dma.index (s.busRead (s.dma.source + BitVec.ofNat 16 s.dma.index)) := by
  rw [dmaTick_active hactive hacc, dmaCopyByte_oam_eq (s := { s with dma := { s.dma with acc := 4 } }) hindex, busRead_withAcc]

theorem dmaTick_active_dma : (s.dmaTick 4).dma =
    { s.dma with index := s.dma.index + 1, active := decide (s.dma.index + 1 ≠ 160), acc := 0 } := by
  rw [dmaTick_active hactive hacc, dmaCopyByte_dma]
  dsimp only
  by_cases hlast : s.dma.index + 1 = 160
  · rw [if_pos hlast, decide_eq_false (not_not.mpr hlast)]
  · rw [if_neg hlast, decide_eq_true hlast, hactive]

end

theorem tick_dma_active {s : State} (hactive : s.dma.active = true) (hacc : s.dma.acc = 0) (hindex : s.dma.index < 160) :
    s.tick.oam = s.oam.write s.dma.index
      (((s.displayTick 4).timerTick 4).busRead (s.dma.source + BitVec.ofNat 16 s.dma.index)) ∧
    s.tick.dma = { s.dma with index := s.dma.index + 1, active := decide (s.dma.index + 1 ≠ 160), acc := 0 } := by
  have hdma : ((s.displayTick 4).timerTick 4).dma = s.dma := by simp
  have hoam : ((s.displayTick 4).timerTick 4).oam = s.oam := by simp
  rw [tick_oam, tick_dma, dmaTick_active_oam (by rwa [hdma]) (by rwa [hdma]) (by rwa [hdma]),
    dmaTick_active_dma (by rwa [hdma]) (by rwa [hdma]), hdma, hoam]
  exact ⟨rfl, rfl⟩

/-- Settles O49: with no clocks counted yet, the four of a tick are one byte's. -/
theorem oamDmaCopiesAByteATick : Obligations.OamDmaCopiesAByteATick := by
  refine ⟨fun s v => ⟨?_, busRead_dma s rfl⟩, fun s hactive hacc hindex => tick_dma_active hactive hacc hindex,
    fun s hidle => tick_dma_idle hidle⟩
  rw [busWrite_dma s v rfl, State.startDma, mkWord_zero]

/-! ## A page -/

/-- Two states whose cartridge, overlay and memory below OAM are one. -/
structure State.SameLow (t s : State) : Prop where
  params : t.params = s.params
  bootEnabled : t.bootEnabled = s.bootEnabled
  mbc1 : t.mbc1 = s.mbc1
  vram : t.vram = s.vram
  eram : t.eram = s.eram
  wram : t.wram = s.wram

theorem State.SameLow.busRead {s t : State} (h : t.SameLow s) {a : Word} (ha : a.toNat ≤ 0xFDFF) : t.busRead a = s.busRead a := by
  have hcovers : t.bootCovers a.toNat = s.bootCovers a.toNat := by
    simp only [State.bootCovers, h.bootEnabled, h.params]
  by_cases hboot : s.bootCovers a.toNat = true
  · rw [busRead_boot s hboot, busRead_boot t (hcovers.trans hboot), h.params]
  have hboot' : s.bootCovers a.toNat = false := by simpa using hboot
  obtain h' | ⟨h', h''⟩ | ⟨h', h''⟩ | ⟨h', h''⟩ | h' : a.toNat ≤ 0x7FFF ∨ (0x8000 ≤ a.toNat ∧ a.toNat ≤ 0x9FFF) ∨
      (0xA000 ≤ a.toNat ∧ a.toNat ≤ 0xBFFF) ∨ (0xC000 ≤ a.toNat ∧ a.toNat ≤ 0xDFFF) ∨ 0xE000 ≤ a.toNat := by omega
  · have hoffset : t.romOffset a.toNat = s.romOffset a.toNat := by unfold State.romOffset; rw [h.params, h.mbc1]
    rw [busRead_rom s h' hboot', busRead_rom t h' (hcovers.trans hboot'), State.readRom, hoffset, h.params, State.readRom]
  · rw [busRead_vram s h' h'', busRead_vram t h' h'', h.vram]
  · rw [busRead_eram s h' h'', busRead_eram t h' h'', State.readEram, eramOffset_congr h.params h.mbc1, h.eram, State.readEram]
  · rw [busRead_wram s h' h'', busRead_wram t h' h'', h.wram]
  · rw [busRead_echo s h' ha, busRead_echo t h' ha, h.wram]

/-- The display's and the timer's part of a tick moves none of it. -/
theorem devices_sameLow (s : State) : ((s.displayTick 4).timerTick 4).SameLow s := by
  constructor <;> simp

theorem tick_sameLow (s : State) : s.tick.SameLow s where
  params := tick_params s
  bootEnabled := tick_bootEnabled s
  mbc1 := tick_mbc1 s
  vram := tick_vram s
  eram := tick_eram s
  wram := tick_wram s

theorem State.SameLow.trans {s t u : State} (hu : u.SameLow t) (ht : t.SameLow s) : u.SameLow s where
  params := hu.params.trans ht.params
  bootEnabled := hu.bootEnabled.trans ht.bootEnabled
  mbc1 := hu.mbc1.trans ht.mbc1
  vram := hu.vram.trans ht.vram
  eram := hu.eram.trans ht.eram
  wram := hu.wram.trans ht.wram

/-- The state after `n` bytes of the page of `v` were copied, from a state in which the transfer was armed. -/
structure PageCopied (s : State) (v : Byte) (n : Nat) (t : State) : Prop where
  wf : t.oam.wf
  oam : ∀ k, t.oam.read k = if k < n then s.busRead (BitVec.ofNat 16 (v.toNat * 256 + k)) else s.oam.read k
  dma : t.dma = { active := decide (n ≠ 160), source := BitVec.ofNat 16 (v.toNat * 256), index := n, acc := 0, reg := v }
  low : t.SameLow s
  hram : t.hram = s.hram

theorem pageCopied_start {s : State} (h : s.MemoryOk) (v : Byte) : PageCopied s v 0 (s.startDma v) where
  wf := h.ram_wf .oam
  oam k := (if_neg (Nat.not_lt_zero k)).symm
  dma := by rw [State.startDma, mkWord_zero]; rfl
  low := ⟨rfl, rfl, rfl, rfl, rfl, rfl⟩
  hram := rfl

/-- The byte that the next tick reads: below OAM it is where it was, and in OAM it is the one that the copy has reached. -/
theorem PageCopied.next_byte {s t : State} {v : Byte} {n : Nat} (hv : v.toNat ≤ 0xFE) (hn : n < 160) (h : PageCopied s v n t) :
    ((t.displayTick 4).timerTick 4).busRead (BitVec.ofNat 16 (v.toNat * 256 + n)) =
      s.busRead (BitVec.ofNat 16 (v.toNat * 256 + n)) := by
  have ha : (BitVec.ofNat 16 (v.toNat * 256 + n)).toNat = v.toNat * 256 + n := by rw [BitVec.toNat_ofNat]; omega
  by_cases hoam : v.toNat = 0xFE
  · have hlo : 0xFE00 ≤ (BitVec.ofNat 16 (v.toNat * 256 + n)).toNat := by omega
    have hhi : (BitVec.ofNat 16 (v.toNat * 256 + n)).toNat ≤ 0xFE9F := by omega
    have hkept : ((t.displayTick 4).timerTick 4).oam = t.oam := by simp
    have hindex : (BitVec.ofNat 16 (v.toNat * 256 + n)).toNat - 0xFE00 = n := by omega
    rw [busRead_oam _ hlo hhi, busRead_oam s hlo hhi, hkept, hindex, h.oam, if_neg (Nat.lt_irrefl n)]
  · exact ((devices_sameLow t).trans h.low).busRead (by omega)

theorem PageCopied.tick {s t : State} {v : Byte} {n : Nat} (hv : v.toNat ≤ 0xFE) (hn : n < 160) (h : PageCopied s v n t) :
    PageCopied s v (n + 1) t.tick := by
  have hdma := h.dma
  obtain ⟨toam, tdma⟩ := tick_dma_active (s := t) (by rw [hdma]; exact decide_eq_true (by omega)) (by rw [hdma]) (by rwa [hdma])
  have haddr : BitVec.ofNat 16 (v.toNat * 256) + BitVec.ofNat 16 n = BitVec.ofNat 16 (v.toNat * 256 + n) := (BitVec.ofNat_add ..).symm
  rw [hdma] at toam tdma
  dsimp only at toam
  rw [haddr, h.next_byte hv hn] at toam
  refine ⟨?wf, fun k => ?oam, tdma, (tick_sameLow t).trans h.low, (tick_hram t).trans h.hram⟩
  case wf =>
    rw [toam]
    exact Memory.wf_write h.wf _ _
  case oam =>
    rw [toam, Memory.read_write h.wf, h.oam]
    by_cases hk : n = k
    · subst hk
      rw [if_pos rfl, if_pos (Nat.lt_succ_self n)]
    · rw [if_neg hk]
      exact if_congr (by omega) rfl rfl

theorem pageCopied_repeat {s : State} {v : Byte} (h : s.MemoryOk) (hv : v.toNat ≤ 0xFE) (n : Nat) (hn : n ≤ 160) :
    PageCopied s v n (Nat.repeat State.tick n (s.startDma v)) := by
  induction n with
  | zero => exact pageCopied_start h v
  | succ n ih => exact (ih (by omega)).tick hv (by omega)

/-- Settles O50: the source page lies below OAM, which the transfer leaves, or is OAM, of which it copies each byte onto itself. -/
theorem oamDmaCopiesThePage : Obligations.OamDmaCopiesThePage := by
  intro s v hmem hv
  have hcopied := pageCopied_repeat hmem hv 160 (Nat.le_refl 160)
  rw [busWrite_dma s v rfl]
  refine ⟨?_, ?_, hcopied.low.vram, hcopied.low.eram, hcopied.low.wram, hcopied.hram, fun k hk => (hcopied.oam k).trans (if_pos hk)⟩
  · rw [hcopied.dma]; rfl
  · rw [hcopied.dma]

end Sys2Proof.Machine
end

section
/-! PROOFS. The timer (60_exceptions.md section 6): its registers, and its clocks one at a time. The sampled bit falls at the multiples of the
select's period. -/
namespace Sys2Proof.Machine

/-! ## The sampled bit -/

/-- The counter's bit that TAC selects (R335). -/
def selectedBit (tac : BitVec 3) : Nat :=
  if tac.toNat % 4 = 0 then 9 else if tac.toNat % 4 = 1 then 3 else if tac.toNat % 4 = 2 then 5 else 7

theorem timerBit_eq (tac : BitVec 3) : timerBit (tac.extractLsb' 0 2) = selectedBit tac := by
  revert tac
  decide

theorem sampled_eq (t : Timer) : t.sampled = (t.tac.getLsbD 2 && t.divCounter.getLsbD (selectedBit t.tac)) := by
  rw [Timer.sampled, timerBit_eq]

/-- An edge count (R333): not during the reload delay. -/
theorem increment_eq (t : Timer) : t.increment = if t.reloadDelay ≠ 0 then t
    else if t.tima = 0xFF then { t with tima := 0, reloadDelay := 4 } else { t with tima := t.tima + 1 } := by
  unfold Timer.increment
  exact if_congr Nat.pos_iff_ne_zero rfl rfl

theorem edgeCheck_eq (t : Timer) : t.edgeCheck =
    { (if t.lastSampledBit = true ∧ t.sampled = false then t.increment else t) with lastSampledBit := t.sampled } := by
  have hedge : (t.lastSampledBit && !t.sampled) = true ↔ t.lastSampledBit = true ∧ t.sampled = false := by simp
  rw [Timer.edgeCheck]
  dsimp only
  rw [if_congr hedge rfl rfl]

/-- An edge check of a changed timer, in whose latch the bit sampled before the change is. -/
theorem edgeCheck_of_ok {t u : Timer} (hok : t.Ok) (hlast : u.lastSampledBit = t.lastSampledBit) : u.edgeCheck =
    { (if (t.tac.getLsbD 2 && t.divCounter.getLsbD (selectedBit t.tac)) = true ∧
          (u.tac.getLsbD 2 && u.divCounter.getLsbD (selectedBit u.tac)) = false
        then (if u.reloadDelay ≠ 0 then u
          else if u.tima = 0xFF then { u with tima := 0, reloadDelay := 4 } else { u with tima := u.tima + 1 })
        else u) with
      lastSampledBit := u.tac.getLsbD 2 && u.divCounter.getLsbD (selectedBit u.tac) } := by
  have hedge : u.lastSampledBit = true ∧ u.sampled = false ↔ (t.tac.getLsbD 2 && t.divCounter.getLsbD (selectedBit t.tac)) = true ∧
      (u.tac.getLsbD 2 && u.divCounter.getLsbD (selectedBit u.tac)) = false := by
    rw [hlast, hok.1, sampled_eq t, sampled_eq u]
  rw [edgeCheck_eq, if_congr hedge rfl rfl, sampled_eq u, increment_eq]

/-! ## The registers -/

theorem tacByte_eq (tac : BitVec 3) : (0b11111#5 ++ tac : Byte) = BitVec.ofNat 8 (0xF8 + tac.toNat) := by
  revert tac
  decide

theorem hiByte_eq_ofNat (v : Word) : hiByte v = BitVec.ofNat 8 (v.toNat / 256) := by
  rw [hiByte, extractLsb_eq_ofNat]; rfl

/-- Settles O52: the writes of DIV and TAC are edge checks of the timer they leave. -/
theorem timerRegistersReadAndWrite : Obligations.TimerRegistersReadAndWrite := by
  intro s v hok
  have read (a : Word) (h : 0xFF04 ≤ a.toNat) (h' : a.toNat ≤ 0xFF07) := busRead_timer s h h'
  have write (a : Word) (h : 0xFF04 ≤ a.toNat) (h' : a.toNat ≤ 0xFF07) := busWrite_timer s v h h'
  refine ⟨⟨(read 0xFF04 (by decide) (by decide)).trans (hiByte_eq_ofNat _), read 0xFF05 (by decide) (by decide),
    read 0xFF06 (by decide) (by decide), (read 0xFF07 (by decide) (by decide)).trans (tacByte_eq _)⟩, ?div,
    write 0xFF05 (by decide) (by decide), write 0xFF06 (by decide) (by decide), ?tac⟩
  case div =>
    exact (write 0xFF04 (by decide) (by decide)).trans (congrArg (fun t => { s with timer := t })
      (edgeCheck_of_ok (u := { s.timer with divCounter := 0 }) hok rfl))
  case tac =>
    have hfield : v.extractLsb' 0 3 = BitVec.ofNat 3 v.toNat := by rw [extractLsb_eq_ofNat, pow_zero, Nat.div_one]
    have hreg : s.timer.writeReg 0xFF07 v = Timer.edgeCheck { s.timer with tac := BitVec.ofNat 3 v.toNat } := by
      rw [← hfield]
      rfl
    exact (write 0xFF07 (by decide) (by decide)).trans (congrArg (fun t => { s with timer := t })
      (hreg.trans (edgeCheck_of_ok (u := { s.timer with tac := BitVec.ofNat 3 v.toNat }) hok rfl)))

/-! ## One clock -/

theorem selectedBit_cases (tac : BitVec 3) : selectedBit tac = 9 ∨ selectedBit tac = 3 ∨ selectedBit tac = 5 ∨ selectedBit tac = 7 := by
  revert tac
  decide

theorem timerPeriod_eq (tac : BitVec 3) : Claim.timerPeriod tac = 2 ^ (selectedBit tac + 1) := by
  revert tac
  decide

/-- The selected bit falls when the counter reaches a multiple of the period. -/
theorem selectedBit_falls (x : Word) (tac : BitVec 3) :
    x.getLsbD (selectedBit tac) = true ∧ (x + 1).getLsbD (selectedBit tac) = false ↔ (x.toNat + 1) % Claim.timerPeriod tac = 0 := by
  have hx := x.isLt
  have hone : (1 : Word).toNat = 1 := rfl
  have falls (b : Nat) (hb : b = 9 ∨ b = 3 ∨ b = 5 ∨ b = 7) :
      x.getLsbD b = true ∧ (x + 1).getLsbD b = false ↔ (x.toNat + 1) % 2 ^ (b + 1) = 0 := by
    simp only [BitVec.getLsbD, Nat.testBit_eq_decide_div_mod_eq, decide_eq_true_eq, decide_eq_false_iff_not, BitVec.toNat_add,
      hone]
    obtain rfl | rfl | rfl | rfl := hb <;> norm_num <;> omega
  rw [timerPeriod_eq]
  exact falls _ (selectedBit_cases tac)

/-- A clock with no reload pending counts. -/
theorem timerTick1_of_no_delay {s : State} (h : s.timer.reloadDelay = 0) : s.timerTick1 = { s with timer := s.timer.count } := by
  have hcountdown : s.timer.countdown = (false, s.timer) := by
    rw [Timer.countdown, if_neg (by omega)]
  rw [timerTick1_eq, hcountdown]
  rfl

section
variable {t : Timer} (hok : t.Ok) (henabled : t.tac.getLsbD 2 = true)
include hok henabled

theorem falls_iff : t.lastSampledBit = true ∧ Timer.sampled { t with divCounter := t.divCounter + 1 } = false ↔
    (t.divCounter.toNat + 1) % Claim.timerPeriod t.tac = 0 := by
  rw [hok.1, sampled_eq, sampled_eq, henabled, Bool.true_and, Bool.true_and, selectedBit_falls]

/-- A count without an overflow: TIMA advances at a multiple of the period. -/
theorem count_running (hdelay : t.reloadDelay = 0)
    (htima : (t.divCounter.toNat + 1) % Claim.timerPeriod t.tac = 0 → t.tima.toNat < 255) :
    t.count.divCounter = t.divCounter + 1 ∧
    t.count.tima.toNat = t.tima.toNat + (if (t.divCounter.toNat + 1) % Claim.timerPeriod t.tac = 0 then 1 else 0) ∧
    t.count.reloadDelay = 0 ∧ t.count.tac = t.tac := by
  rw [Timer.count, edgeCheck_eq, if_congr (falls_iff hok henabled) rfl rfl]
  by_cases hfalls : (t.divCounter.toNat + 1) % Claim.timerPeriod t.tac = 0
  · have hlt := htima hfalls
    have hne : t.tima ≠ 0xFF := fun h => by rw [h] at hlt; exact absurd hlt (by decide)
    have hnext : (t.tima + 1).toNat = t.tima.toNat + 1 := by
      rw [BitVec.toNat_add, show (1 : Byte).toNat = 1 from rfl]
      omega
    rw [if_pos hfalls, if_pos hfalls, increment_eq, if_neg (not_not.mpr hdelay), if_neg hne]
    exact ⟨rfl, hnext, hdelay, rfl⟩
  · rw [if_neg hfalls, if_neg hfalls]
    exact ⟨rfl, rfl, hdelay, rfl⟩

end

/-! ## Many clocks -/

/-- The multiples of a period among the next `n + 1` counts, from the first one on; the counter's wrap is one. -/
theorem passed_succ {p x : Nat} (n : Nat) (hp : p = 1024 ∨ p = 16 ∨ p = 64 ∨ p = 256) :
    (x + (n + 1)) / p - x / p = (if (x + 1) % p = 0 then 1 else 0) + (((x + 1) % 65536 + n) / p - (x + 1) % 65536 / p) := by
  obtain rfl | rfl | rfl | rfl := hp <;> split <;> omega

theorem timerPeriod_cases (tac : BitVec 3) : Claim.timerPeriod tac = 1024 ∨ Claim.timerPeriod tac = 16 ∨ Claim.timerPeriod tac = 64 ∨
    Claim.timerPeriod tac = 256 := by
  revert tac
  decide

/-- Settles O53: by induction on the clocks; each one passes at most one multiple of the period. -/
theorem timerCountsItsPeriod : Obligations.TimerCountsItsPeriod := by
  intro s n
  induction n generalizing s with
  | zero =>
    intro _ _ hdelay
    dsimp only
    intro _
    exact ⟨(BitVec.add_zero _).symm, by simp [State.timerTick], rfl, hdelay⟩
  | succ n ih =>
    intro hok henabled hdelay
    dsimp only
    intro hfit
    have hpassed := passed_succ n (x := s.timer.divCounter.toNat) (timerPeriod_cases s.timer.tac)
    rw [hpassed] at hfit ⊢
    obtain ⟨hdiv, htima, hdelay', htac⟩ := count_running hok henabled hdelay (fun h => by rw [if_pos h] at hfit; omega)
    have hstep := timerTick1_of_no_delay hdelay
    have hnat : s.timer.count.divCounter.toNat = (s.timer.divCounter.toNat + 1) % 65536 := by
      rw [hdiv, BitVec.toNat_add]
      rfl
    have hih := ih s.timerTick1 (timerTick1_ok hok)
    rw [hstep] at hih
    dsimp only at hih
    rw [htac, hnat, htima, hdiv] at hih
    obtain ⟨ihdiv, ihtima, ihflag, ihdelay⟩ := hih henabled hdelay' (by omega)
    rw [State.timerTick, hstep]
    refine ⟨?_, by omega, ihflag, ihdelay⟩
    rw [ihdiv, BitVec.add_assoc, Nat.add_comm n 1, BitVec.ofNat_add]
    rfl

/-! ## The reload -/

theorem timerTick_succ_last (n : Nat) (s : State) : s.timerTick (n + 1) = (s.timerTick n).timerTick1 := by
  induction n generalizing s with
  | zero => rfl
  | succ n ih => exact ih s.timerTick1

theorem count_of_no_edge {t : Timer} (h : t.lastSampledBit = false) : t.count =
    { t with divCounter := t.divCounter + 1, lastSampledBit := Timer.sampled { t with divCounter := t.divCounter + 1 } } := by
  rw [Timer.count, edgeCheck_eq, if_neg (by simp [h])]

theorem countdown_waits {t : Timer} (h : 2 ≤ t.reloadDelay) : t.countdown = (false, { t with reloadDelay := t.reloadDelay - 1 }) := by
  rw [Timer.countdown, if_pos (by omega)]
  exact if_neg (by dsimp only; omega)

theorem countdown_reloads {t : Timer} (h : t.reloadDelay = 1) : t.countdown = (true, { t with reloadDelay := 0, tima := t.tma }) := by
  rw [Timer.countdown, h]
  rfl

/-- After a fall the sampled bit is 0 for eight clocks at least, half the shortest period. -/
theorem selectedBit_low {x : Word} {tac : BitVec 3} (h : (x.toNat + 1) % Claim.timerPeriod tac = 0) {k : Nat} (hk : k < 8) :
    (x + BitVec.ofNat 16 (k + 1)).getLsbD (selectedBit tac) = false := by
  have low (b : Nat) (hb : b = 9 ∨ b = 3 ∨ b = 5 ∨ b = 7) (hx : (x.toNat + 1) % 2 ^ (b + 1) = 0) :
      (x + BitVec.ofNat 16 (k + 1)).getLsbD b = false := by
    have hx' := x.isLt
    simp only [BitVec.getLsbD, Nat.testBit_eq_decide_div_mod_eq, decide_eq_false_iff_not, BitVec.toNat_add, BitVec.toNat_ofNat]
    obtain rfl | rfl | rfl | rfl := hb <;> norm_num at hx ⊢ <;> omega
  exact low _ (selectedBit_cases tac) (timerPeriod_eq tac ▸ h)

/-- `k` clocks after the clock of an overflow, while the reload is pending. -/
structure Reloading (s : State) (k : Nat) (t : State) : Prop where
  timer : t.timer = { s.timer with divCounter := s.timer.divCounter + BitVec.ofNat 16 (k + 1), tima := 0, lastSampledBit := false,
                                   reloadDelay := 4 - k }
  iflag : t.iflag = s.iflag

/-- The state of an overflow at its next clock. -/
structure Overflowing (s : State) : Prop where
  ok : s.timer.Ok
  tima : s.timer.tima = 0xFF
  delay : s.timer.reloadDelay = 0
  before : s.timer.sampled = true
  after : Timer.sampled { s.timer with divCounter := s.timer.divCounter + 1 } = false

section
variable {s : State} (h : Overflowing s)
include h

theorem Overflowing.low {k : Nat} (hk : k < 8) :
    Timer.sampled { s.timer with divCounter := s.timer.divCounter + BitVec.ofNat 16 (k + 1) } = false := by
  have henabled : s.timer.tac.getLsbD 2 = true := by
    have hbefore := h.before
    rw [sampled_eq, Bool.and_eq_true] at hbefore
    exact hbefore.1
  have hfalls := (falls_iff h.ok henabled).mp ⟨h.ok.1.trans h.before, h.after⟩
  rw [sampled_eq, selectedBit_low hfalls hk, Bool.and_false]

theorem Overflowing.start : Reloading s 0 s.timerTick1 := by
  have hcount : s.timer.count = { s.timer with
      divCounter := s.timer.divCounter + 1, tima := 0, lastSampledBit := false, reloadDelay := 4 } := by
    rw [Timer.count, edgeCheck_eq, if_pos ⟨h.ok.1.trans h.before, h.after⟩, h.after, increment_eq, if_neg (not_not.mpr h.delay),
      if_pos h.tima]
  rw [timerTick1_of_no_delay h.delay, hcount]
  exact ⟨rfl, rfl⟩

theorem Overflowing.counts {k : Nat} (hk : k < 7) {t : Timer} (hdiv : t.divCounter = s.timer.divCounter + BitVec.ofNat 16 (k + 1))
    (htac : t.tac = s.timer.tac) (hlast : t.lastSampledBit = false) :
    t.count = { t with divCounter := s.timer.divCounter + BitVec.ofNat 16 (k + 2), lastSampledBit := false } := by
  have hnext : t.divCounter + 1 = s.timer.divCounter + BitVec.ofNat 16 (k + 2) := by
    rw [hdiv, BitVec.add_assoc, BitVec.ofNat_add (k + 1) 1]
    rfl
  have hlow := h.low (k := k + 1) (by omega)
  rw [sampled_eq] at hlow
  rw [count_of_no_edge hlast, sampled_eq, hnext, htac, hlow]

theorem Overflowing.waits {k : Nat} (hk : k < 3) {t : State} (ht : Reloading s k t) : Reloading s (k + 1) t.timerTick1 := by
  have hcountdown := countdown_waits (t := t.timer) (by rw [ht.timer]; dsimp only; omega)
  rw [timerTick1_eq, hcountdown]
  refine ⟨(h.counts (k := k) (by omega) ?_ ?_ ?_).trans ?_, ht.iflag⟩
  all_goals rw [ht.timer]
  rfl

theorem Overflowing.reloads {t : State} (ht : Reloading s 3 t) :
    t.timerTick1.timer.tima = s.timer.tma ∧ t.timerTick1.iflag = s.iflag ||| 0b00100 ∧ t.timerTick1.timer.reloadDelay = 0 := by
  have hcountdown := countdown_reloads (t := t.timer) (by rw [ht.timer])
  rw [timerTick1_eq, hcountdown]
  dsimp only
  rw [h.counts (k := 3) (by omega) (by rw [ht.timer]) (by rw [ht.timer]) (by rw [ht.timer]), ht.timer, if_pos rfl]
  exact ⟨rfl, congrArg (· ||| 0b00100) ht.iflag, rfl⟩

theorem Overflowing.reloading {k : Nat} (hk : k < 4) : Reloading s k (s.timerTick (k + 1)) := by
  induction k with
  | zero => exact h.start
  | succ k ih =>
    rw [timerTick_succ_last]
    exact h.waits (by omega) (ih (by omega))

end

/-- Settles O54: the sampled bit stays low while the reload is pending, so nothing counts in between. -/
theorem timerReloadsFourClocksAfterOverflow : Obligations.TimerReloadsFourClocksAfterOverflow := by
  intro s hok htima hdelay hbefore hafter
  have h : Overflowing s := ⟨hok, htima, hdelay, hbefore, hafter⟩
  refine ⟨fun k => ⟨?_, (h.reloading k.isLt).iflag⟩, ?_⟩
  · rw [(h.reloading k.isLt).timer]
  · rw [timerTick_succ_last]
    exact h.reloads (h.reloading (by decide))

end Sys2Proof.Machine
end

section
/-! PROOFS. The display controller's dots and registers (60_exceptions.md section 7): one dot as an equation, the disabled display, a whole
frame, and the registers. -/
namespace Sys2Proof.Machine

/-! ## One dot -/

theorem requestStat_eq (s : State) (c : Bool) : s.requestStat c = { s with iflag := Claim.withStat s.iflag c } := by
  cases c <;> rfl

/-- A re-evaluated coincidence, as an update of the display controller and IF. -/
theorem updateCoincidence_eq (s : State) (old : Bool) : s.updateCoincidence old =
    { s with lcd := { s.lcd with coincidence := decide (s.lcd.ly = s.lcd.lyc) },
             iflag := Claim.withStat s.iflag (decide (s.lcd.ly = s.lcd.lyc) && Claim.lycSource s.lcd && !old) } :=
  requestStat_eq _ _

theorem nextLine_eq {ly : Byte} (h : ly.toNat < 154) : nextLine ly = if ly.toNat = 153 then 0 else ly + 1 := by
  apply BitVec.eq_of_toNat_eq
  rw [nextLine_toNat]
  split
  next hlast => rw [hlast]; rfl
  next hnot =>
    rw [BitVec.toNat_add, show (1 : Byte).toNat = 1 from rfl]
    omega

/-- The display controller moved to the next position. -/
def advanced (d : Lcd) : Lcd :=
  if d.dot = 455 then
    { d with dot := 0, ly := if d.ly.toNat = 153 then 0 else d.ly + 1,
             coincidence := decide ((if d.ly.toNat = 153 then 0 else d.ly + 1) = d.lyc) }
  else { d with dot := d.dot + 1 }

/-- Whether the move raises the LYC source line. -/
def lycRises (d : Lcd) : Bool :=
  decide (d.dot = 455) && (advanced d).coincidence && Claim.lycSource d && !(d.coincidence && Claim.lycSource d)

theorem advanceDot_eq {s : State} (h : s.lcd.ly.toNat < 154) :
    s.advanceDot = { s with lcd := advanced s.lcd, iflag := Claim.withStat s.iflag (lycRises s.lcd) } := by
  by_cases hdot : s.lcd.dot = 455
  · rw [State.advanceDot, if_pos (by rw [hdot]; rfl), updateCoincidence_eq, lycRises, advanced, if_pos hdot, nextLine_eq h, hdot]
    rfl
  · rw [State.advanceDot, if_neg (by unfold dotsPerLine; omega), lycRises, advanced, if_neg hdot, decide_eq_false hdot]
    rfl

/-- The entry of a mode (R354 to R357). -/
theorem onEnter_eq (s : State) (m : Mode) : s.onEnter m =
    match m with
    | .oam => { s with iflag := Claim.withStat s.iflag (Claim.oamSource s.lcd) }
    | .transfer => s
    | .hblank => { s with lcd := renderLine s.lcd s.vram s.lcd.ly, iflag := Claim.withStat s.iflag (Claim.hblankSource s.lcd) }
    | .vblank => { s with frames := s.frames ++ [s.lcd.frame],
                          iflag := Claim.withStat (s.iflag ||| 0b00001) (Claim.vblankSource s.lcd) } := by
  cases m with
  | transfer => rfl
  | hblank | vblank | oam => exact requestStat_eq _ _

theorem advanced_dot_lt {d : Lcd} (hdot : d.dot < 456) : (advanced d).dot < 456 := by
  unfold advanced
  split
  · exact Nat.zero_lt_succ _
  · dsimp only
    omega

/-- One dot: the move of the position, then the entry of the mode that the new position has. -/
theorem dotTick_eq {s : State} (h : s.lcd.RangeOk) (hen : s.lcd.enabled = true) : s.dotTick =
    if Claim.modeAt (Claim.position (advanced s.lcd)) = s.lcd.mode then
      { s with lcd := { advanced s.lcd with mode := Claim.modeAt (Claim.position (advanced s.lcd)) },
               iflag := Claim.withStat s.iflag (lycRises s.lcd) }
    else
      State.onEnter { s with lcd := { advanced s.lcd with mode := Claim.modeAt (Claim.position (advanced s.lcd)) },
                             iflag := Claim.withStat s.iflag (lycRises s.lcd) }
        (Claim.modeAt (Claim.position (advanced s.lcd))) := by
  have hmode : (advanced s.lcd).mode = s.lcd.mode := by unfold advanced; split <;> rfl
  rw [State.dotTick, if_pos hen, advanceDot_eq h.1, State.enterMode]
  dsimp only
  rw [modeOf_eq_modeAt_position (advanced_dot_lt h.2.1), hmode]
  by_cases hsame : Claim.modeAt (Claim.position (advanced s.lcd)) = s.lcd.mode
  · rw [if_pos hsame, if_pos hsame, hsame, ← hmode]
  · rw [if_neg hsame, if_neg hsame]

/-- Settles O57: the equation of a dot, read with the last dot of a line and the others apart. -/
theorem dotsEnterModesOnce : Obligations.DotsEnterModesOnce := by
  intro s h hen
  have hdot := dotTick_eq h hen
  rw [onEnter_eq] at hdot
  by_cases hlast : s.lcd.dot = 455
  · simp only [advanced, lycRises, if_pos hlast, decide_eq_true hlast] at hdot
    dsimp only
    simp only [decide_eq_true hlast, if_true]
    exact hdot
  · simp only [advanced, lycRises, if_neg hlast, decide_eq_false hlast] at hdot
    dsimp only
    simp only [decide_eq_false hlast, Bool.false_eq_true, if_false]
    exact hdot

/-- Settles O58: a second dot finds what the first one left. -/
theorem disabledDisplayStandsStill : Obligations.DisabledDisplayStandsStill := by
  intro s n hoff
  have hdot {u : State} (hu : u.lcd.enabled = false) : u.dotTick = { u with lcd := u.lcd.offDot } := by
    rw [State.dotTick, if_neg (by simp [hu])]
  have hidle : State.displayTick n { s with lcd := s.lcd.offDot } = { s with lcd := s.lcd.offDot } := by
    induction n with
    | zero => rfl
    | succ n ih => rwa [State.displayTick, hdot (u := { s with lcd := s.lcd.offDot }) hoff]
  rw [State.displayTick, hdot hoff, hidle, Lcd.offDot, decide_eq_decide.mpr eq_comm]

/-! ## A frame -/

theorem displayTick_add (m n : Nat) (s : State) : s.displayTick (m + n) = (s.displayTick m).displayTick n := by
  induction m generalizing s with
  | zero => rw [Nat.zero_add]; rfl
  | succ m ih => rw [Nat.succ_add]; exact ih s.dotTick

/-- The display controller as the dots of an enabled display keep it. -/
structure Lcd.Running (d : Lcd) : Prop where
  range : d.RangeOk
  mode : d.ModeOk
  enabled : d.enabled = true

theorem Lcd.Running.displayTick {s : State} (h : s.lcd.Running) (n : Nat) : (s.displayTick n).lcd.Running where
  range := displayTick_range n h.range
  mode := displayTick_modeOk n h.mode
  enabled := (displayTick_enabled n s).trans h.enabled

theorem Lcd.Running.dotTick {s : State} (h : s.lcd.Running) : s.dotTick.lcd.Running := h.displayTick 1

/-- The position at which VBlank is entered: the first of line 144. -/
def vblankStart : Nat := 65664

theorem modeAt_eq_vblank_iff {pos : Nat} : Claim.modeAt pos = .vblank ↔ vblankStart ≤ pos := by
  unfold Claim.modeAt
  by_cases h : 144 * 456 ≤ pos
  · rw [if_pos h]
    exact iff_of_true rfl h
  · rw [if_neg h]
    refine iff_of_false ?_ h
    split
    · exact Mode.noConfusion
    · split <;> exact Mode.noConfusion

theorem withStat_vblank (f : BitVec 5) (c : Bool) : (Claim.withStat (f ||| 0b00001) c).getLsbD 0 = true := by
  revert f c
  decide

section
variable {s : State} (h : s.lcd.Running)
include h

/-- The position the dot moves to, as the dot's equation has it. -/
theorem advanced_position : Claim.position (advanced s.lcd) = (Claim.position s.lcd + 1) % 70224 := by
  rw [← advanceDot_claimPosition h.range, advanceDot_eq h.range.1]

/-- A dot that does not enter VBlank hands over no frame. -/
theorem dotTick_frames_of_ne (hpos : (Claim.position s.lcd + 1) % 70224 ≠ vblankStart) : s.dotTick.frames = s.frames := by
  have hmode := mode_eq_modeAt_position h.range h.mode h.enabled
  rw [dotTick_eq h.range h.enabled, advanced_position h, hmode, onEnter_eq]
  split
  · rfl
  next hchange =>
    cases hm : Claim.modeAt ((Claim.position s.lcd + 1) % 70224) with
    | vblank =>
      have hline := modeAt_eq_vblank_iff.mp hm
      have hlt := position_lt h.range
      unfold vblankStart at hpos hline
      exact absurd (hm.trans (modeAt_eq_vblank_iff.mpr (by unfold vblankStart; omega)).symm) hchange
    | hblank | oam | transfer => rfl

/-- The dot that enters VBlank hands the frame over and requests the interrupt (R357). -/
theorem dotTick_vblank (hpos : (Claim.position s.lcd + 1) % 70224 = vblankStart) :
    s.dotTick.frames = s.frames ++ [s.lcd.frame] ∧ s.dotTick.iflag.getLsbD 0 = true := by
  have hmode := mode_eq_modeAt_position h.range h.mode h.enabled
  have henter : Claim.modeAt vblankStart = .vblank := modeAt_eq_vblank_iff.mpr (Nat.le_refl _)
  have hchange : Mode.vblank ≠ s.lcd.mode := by
    rw [hmode]
    intro e
    have hline := modeAt_eq_vblank_iff.mp e.symm
    have hlt := position_lt h.range
    unfold vblankStart at hpos hline
    omega
  have hframe : (advanced s.lcd).frame = s.lcd.frame := by unfold advanced; split <;> rfl
  rw [dotTick_eq h.range h.enabled, advanced_position h, hpos, henter, if_neg hchange, onEnter_eq]
  dsimp only
  rw [hframe]
  exact ⟨rfl, withStat_vblank _ _⟩

theorem displayTick_frames_of_ne (n : Nat) (hpos : ∀ j < n, (Claim.position s.lcd + (j + 1)) % 70224 ≠ vblankStart) :
    (s.displayTick n).frames = s.frames := by
  induction n generalizing s with
  | zero => rfl
  | succ n ih =>
    rw [State.displayTick, ih h.dotTick (fun j hj => ?_), dotTick_frames_of_ne h (hpos 0 (Nat.succ_pos n))]
    rw [dotTick_claimPosition h.range h.enabled, Nat.mod_add_mod, Nat.add_assoc, Nat.add_comm 1]
    exact hpos (j + 1) (by omega)

end

/-- Requests leave a request that is set. -/
theorem Requested.getLsbD {f g : BitVec 5} (h : Requested f g) {i : Nat} (hi : f.getLsbD i = true) : g.getLsbD i = true := by
  rw [← h.keeps, BitVec.getLsbD_and, Bool.and_eq_true] at hi
  exact hi.2

/-- Settles O56: one of the 70224 dots enters VBlank; before and after it no frame is handed over. -/
theorem oneFrameEvery70224Dots : Obligations.OneFrameEvery70224Dots := by
  intro s hrange hmode hen
  have h : s.lcd.Running := ⟨hrange, hmode, hen⟩
  have hlt := position_lt hrange
  obtain ⟨before, after, hsum, hreach⟩ : ∃ before after, 70224 = before + (1 + after) ∧
      (Claim.position s.lcd + (before + 1)) % 70224 = vblankStart := by
    refine ⟨(135887 - Claim.position s.lcd) % 70224, 70223 - (135887 - Claim.position s.lcd) % 70224,
      by omega, ?_⟩
    unfold vblankStart
    omega
  have hframes := displayTick_frames_of_ne h before (fun j hj => by unfold vblankStart at *; omega)
  have hu := h.displayTick before
  have hpos := displayTick_claimPosition before hrange hen
  obtain ⟨henter, hrequest⟩ := dotTick_vblank hu (by rw [hpos, Nat.mod_add_mod, Nat.add_assoc, hreach])
  have hlast := displayTick_frames_of_ne hu.dotTick after (fun j hj => by
    rw [dotTick_claimPosition hu.range hu.enabled, hpos]
    unfold vblankStart at *
    omega)
  have hsplit : s.displayTick 70224 = (s.displayTick before).dotTick.displayTick after := by
    rw [hsum, displayTick_add, displayTick_add]
    rfl
  refine ⟨(s.displayTick before).lcd.frame, ?_, hu.range.2.2.2, ?_, ?_⟩
  · rw [hsplit, hlast, henter, hframes]
  · rw [hsplit]
    exact (displayTick_requested after _).getLsbD hrequest
  · rw [displayTick_claimPosition 70224 hrange hen, Nat.add_mod_right, Nat.mod_eq_of_lt hlt]

/-! ## The registers -/

theorem stat_eq (d : Lcd) : d.stat = BitVec.ofNat 8 (0x80 + d.statEnables.toNat * 8 + d.coincidence.toNat * 4 +
    (match d.mode with | .hblank => 0 | .vblank => 1 | .oam => 2 | .transfer => 3)) := by
  have hbyte : ∀ (e : BitVec 4) (c : Bool), ∀ m : Mode, (1#1 ++ e ++ BitVec.ofBool c ++ m.code : Byte) =
      BitVec.ofNat 8 (0x80 + e.toNat * 8 + c.toNat * 4 + (match m with | .hblank => 0 | .vblank => 1 | .oam => 2 | .transfer => 3)) := by
    intro e c m
    cases m <;> revert e c <;> decide
  exact hbyte _ _ _

theorem writeStat_eq (s : State) (v : Byte) : s.writeStat v =
    { s with lcd := { s.lcd with statEnables := BitVec.ofNat 4 (v.toNat / 8) },
             iflag := Claim.withStat s.iflag (s.lcd.coincidence && v.getLsbD 6 && !(s.lcd.coincidence && Claim.lycSource s.lcd)) } := by
  have hbit : (v.extractLsb' 3 4).getLsbD 3 = v.getLsbD 6 := by simp
  have henables : v.extractLsb' 3 4 = BitVec.ofNat 4 (v.toNat / 8) := extractLsb_eq_ofNat v 3 4
  rw [State.writeStat]
  dsimp only
  rw [requestStat_eq, Lcd.lycLine, Lcd.lycLine, hbit, henables]
  rfl

/-- Settles O59: each register is a row of the display's bus; LY, LYC and STAT test the coincidence through one rule. -/
theorem displayRegistersReadAndWrite : Obligations.DisplayRegistersReadAndWrite := by
  intro s v
  have readLow (a : Word) (h : 0xFF40 ≤ a.toNat) (h' : a.toNat ≤ 0xFF45) := busRead_lcdLow s h h'
  have readHigh (a : Word) (h : 0xFF47 ≤ a.toNat) (h' : a.toNat ≤ 0xFF4B) := busRead_lcdHigh s h h'
  have writeLow (a : Word) (h : 0xFF40 ≤ a.toNat) (h' : a.toNat ≤ 0xFF45) := busWrite_lcdLow s v h h'
  have writeHigh (a : Word) (h : 0xFF47 ≤ a.toNat) (h' : a.toNat ≤ 0xFF4B) := busWrite_lcdHigh s v h h'
  refine ⟨⟨readLow 0xFF40 (by decide) (by decide), readLow 0xFF42 (by decide) (by decide), readLow 0xFF43 (by decide) (by decide),
    readLow 0xFF44 (by decide) (by decide), readLow 0xFF45 (by decide) (by decide), readHigh 0xFF47 (by decide) (by decide),
    readHigh 0xFF48 (by decide) (by decide), readHigh 0xFF49 (by decide) (by decide), readHigh 0xFF4A (by decide) (by decide),
    readHigh 0xFF4B (by decide) (by decide), (readLow 0xFF41 (by decide) (by decide)).trans (stat_eq s.lcd)⟩,
    ⟨writeLow 0xFF40 (by decide) (by decide), writeLow 0xFF42 (by decide) (by decide), writeLow 0xFF43 (by decide) (by decide),
    writeHigh 0xFF47 (by decide) (by decide), writeHigh 0xFF48 (by decide) (by decide), writeHigh 0xFF49 (by decide) (by decide),
    writeHigh 0xFF4A (by decide) (by decide), writeHigh 0xFF4B (by decide) (by decide)⟩,
    (writeLow 0xFF41 (by decide) (by decide)).trans (writeStat_eq s v), ?ly, ?lyc⟩
  case ly =>
    refine (writeLow 0xFF44 (by decide) (by decide)).trans ?_
    have hw : s.writeLcdReg 0xFF44 v = State.updateCoincidence { s with lcd := { s.lcd with ly := 0 } } s.lcd.lycLine := rfl
    refine (hw.trans (updateCoincidence_eq _ _)).trans ?_
    dsimp only
    rw [decide_eq_decide.mpr (eq_comm (a := (0 : Byte)))]
    rfl
  case lyc => exact (writeLow 0xFF45 (by decide) (by decide)).trans (updateCoincidence_eq _ _)

end Sys2Proof.Machine
end

section
/-! PROOFS. The scanline renderer (R364 to R368): each step of a pixel, from its tile to its gray, as a number. -/
namespace Sys2Proof.Machine

/-- The signed tile numbers run from 0x0800 on, in the order 128 to 255, 0 to 127 (R365). -/
theorem tileBase_eq (lcdc idx : Byte) : tileBase lcdc idx =
    if lcdc.getLsbD 4 then idx.toNat * 16 else 0x0800 + (if idx.toNat < 128 then idx.toNat + 128 else idx.toNat - 128) * 16 := by
  have hidx := idx.isLt
  have hsigned : (idx.toInt + 128).toNat = if idx.toNat < 128 then idx.toNat + 128 else idx.toNat - 128 := by
    rw [BitVec.toInt_eq_toNat_cond]
    split <;> split <;> omega
  rw [tileBase, hsigned]

theorem getLsbD_toNat {w : Nat} (v : BitVec w) (i : Nat) : (v.getLsbD i).toNat = v.toNat / 2 ^ i % 2 := by
  rw [BitVec.getLsbD, Nat.testBit_eq_decide_div_mod_eq]
  obtain h | h := Nat.mod_two_eq_zero_or_one (v.toNat / 2 ^ i) <;> rw [h] <;> rfl

theorem twoBits_toNat (hi lo : Bool) : (BitVec.ofBool hi ++ BitVec.ofBool lo).toNat = hi.toNat * 2 + lo.toNat := by
  cases hi <;> cases lo <;> rfl

theorem shade_toNat (bgp : Byte) (id : BitVec 2) : (shade bgp id).toNat = bgp.toNat / 4 ^ id.toNat % 4 := by
  rw [shade, BitVec.extractLsb'_toNat, BitVec.toNat_ushiftRight, Nat.shiftRight_zero, Nat.shiftRight_eq_div_pow, pow_mul]
  rfl

/-- A shade as an opaque pixel: the four grays are 85 apart (R366, decision D34). -/
theorem gray_eq (s : BitVec 2) : gray s =
    BitVec.ofNat 32 (0xFF000000 + (255 - 85 * s.toNat) * 65536 + (255 - 85 * s.toNat) * 256 + (255 - 85 * s.toNat)) := by
  revert s
  decide

/-- The row of a rendered line. -/
theorem renderLine_row {d : Lcd} (h : FrameOk d.frame) (vram : Memory) {ly : Byte} (hly : ly.toNat < 144) :
    (renderLine d vram ly).frame[ly.toNat]? = some ((List.range 160).map (pixelAt d vram ly)) :=
  List.getElem?_set_self (h.1 ▸ hly)

theorem colorId_toNat (d : Lcd) (vram : Memory) (ly : Byte) (x : Nat) :
    let y := (ly.toNat + d.scy.toNat) % 256
    let mx := (x + d.scx.toNat) % 256
    let map := if d.lcdc.getLsbD 3 then 0x1C00 else 0x1800
    let row := tileBase d.lcdc (vram.read (map + y / 8 * 32 + mx / 8)) + y % 8 * 2
    (colorId d vram ly x).toNat =
      (vram.read (row + 1)).toNat / 2 ^ (7 - mx % 8) % 2 * 2 + (vram.read row).toNat / 2 ^ (7 - mx % 8) % 2 := by
  have hy : (ly + d.scy).toNat = (ly.toNat + d.scy.toNat) % 256 := BitVec.toNat_add ..
  have hmx : (BitVec.ofNat 8 x + d.scx).toNat = (x + d.scx.toNat) % 256 := by
    rw [BitVec.toNat_add, BitVec.toNat_ofNat]
    omega
  rw [colorId, twoBits_toNat, getLsbD_toNat, getLsbD_toNat, hy, hmx]

/-- Settles O60: a rendered line is the pixels of its columns, and a pixel is the gray of its tile's color. -/
theorem rendererDrawsTheBackground : Obligations.RendererDrawsTheBackground := by
  intro d vram ly hframe hly
  have hrow := renderLine_row hframe vram hly
  refine ⟨fun y hy => List.getElem?_set_ne (Ne.symm hy), fun hoff => ?white, fun hon x hx => ?background⟩
  case white =>
    have hpixel : pixelAt d vram ly = fun _ => 0xFFFFFFFF := by
      funext x
      rw [pixelAt, hoff, if_neg Bool.false_ne_true]
    rw [hrow, hpixel, List.map_const', List.length_range]
  case background =>
    dsimp only
    have hpixel : ((List.range 160).map (pixelAt d vram ly))[x]? = some (pixelAt d vram ly x) := by
      rw [List.getElem?_map, List.getElem?_range hx, Option.map_some]
    rw [hrow, Option.bind_some, hpixel, pixelAt, if_pos hon, gray_eq, shade_toNat, colorId_toNat d vram ly x, tileBase_eq]

end Sys2Proof.Machine
end
